-- ==== Sys2Proof/Word.lean ====
section
/-! DEFINITION. The words of the block: bytes, 32-bit CRC values, and the two width-DW things of a
stream element (spec 00_scope R10, R15, 30_encoding R71). -/

namespace Sys2Proof

/-- One byte lane, `data[8j+7:8j]` (R16, R71). -/
abbrev Byte := BitVec 8

/-- A 32-bit CRC register, CRC value or residue (R7, `N = 32`). -/
abbrev Crc := BitVec 32

/-- The `data` of an element as its byte lanes, lane 0 first (R54, R71). DW is eight times the length. -/
abbrev Lanes := List Byte

/-- A `last_be` mask; position `k` of the list is bit `k` of the mask, which names lane `k` (R71). -/
abbrev LaneMask := List Bool

end Sys2Proof
end

