-- ==== Sys2Proof/Config.lean ====
section
/-! DEFINITION. What is fixed when the block is built (spec 00_scope R7, R8, R9), the CRC constants, and the
free values: constants with no body, applied to the draw counter of State, so that no proof can see them. -/

namespace Sys2Proof

/-- `RESET_APPLY` (R9, D11): the open parameter. No rule reads it, and no operation of the model does. -/
inductive ResetApply where
  | synchronousPort
  | asynchronousPort
  | powerOnOnly
  deriving DecidableEq, Repr

/-- The build parameters of the instances: `DWB`, the number of byte lanes, of the standalone CRC32Unit, of the
Inserter and of the Checker (R7), and `RESET_APPLY` (R9). `DW` is eight times `DWB`. The width of the
standalone engine is no field: its operand carries it (DESIGN CHOICE, log 22). -/
structure Params where
  unitDwb : Nat
  insDwb : Nat
  chkDwb : Nat
  resetApply : ResetApply
  deriving DecidableEq, Repr

namespace Config

/-- `P`, the generator polynomial (R7). -/
def poly : Crc := 0x04C11DB7#32

/-- `INIT`, the initial value of every lane register (R7). -/
def init : Crc := 0xFFFFFFFF#32

/-- `RESIDUE` (R7). -/
def residue : Crc := 0xC704DD7B#32

/-- `RATIO = N / DW`, the elements a 32-bit trailer takes: 4, 2, 1 for one, two, four lanes (R7). -/
def ratio (dwb : Nat) : Nat := 32 / (8 * dwb)

/-- `CAP = RATIO + 1`, the capacity of the staging buffer (R7, R29). -/
def cap (dwb : Nat) : Nat := ratio dwb + 1

/-! Free values. The first argument is the draw counter: one draw per cycle, fresh in every cycle. DESIGN CHOICE
(log 8, log 9): safe, no proof can see a value; two runs with the same counter see the same draws. -/

/-- The unit's `value` for a mask with two or more bits (R129). -/
opaque freeUnitValue : Nat → Crc

/-- The unit's `error` for a mask with two or more bits (R129). -/
opaque freeUnitError : Nat → Bool

/-- `sink.ready` while `sink.valid = 0` (R65). -/
opaque freeSinkReady : Nat → Bool

/-- Byte lane `j` (second argument) of `source.data` while `source.valid = 0` (R65). -/
opaque freeSourceByte : Nat → Nat → Byte

/-- Bit `j` (second argument) of `source.last_be` while `source.valid = 0` (R65). -/
opaque freeSourceLastBe : Nat → Nat → Bool

/-- `source.last` while `source.valid = 0` (R65). -/
opaque freeSourceLast : Nat → Bool

/-- `source.error` while `source.valid = 0` (R65). -/
opaque freeSourceError : Nat → Bool

end Config
end Sys2Proof
end

