-- ==== Sys2Proof/Syntax.lean ====
section
/-! DEFINITION. The encoded objects of the block (spec 30_encoding R70): stream elements, the inputs of a cycle,
the cycle operations (the rows of spec/opcode_table.json) and the decode words that select them. -/

namespace Sys2Proof

/-- A stream element (R15). -/
structure Element where
  data : Lanes
  last : Bool
  lastBe : LaneMask
  error : Bool
  deriving DecidableEq, Repr

/-- The Inserter's states (R24). -/
inductive InsState where
  | idle
  | copy
  | append
  deriving DecidableEq, Repr

/-- The Checker's states (R28). -/
inductive ChkState where
  | reset
  | idle
  | active
  deriving DecidableEq, Repr

/-- The operands of a standalone engine: the state `s` and the `W` data bits, bit 0 first (R100). `W` is the length of
this word, not a build parameter. DESIGN CHOICE, log 22. -/
structure EngineIn where
  state : Crc
  data : List Bool
  deriving DecidableEq, Repr

/-- The inputs of a CRC32Unit in a cycle (R23, R120). -/
structure UnitIn where
  reset : Bool
  enable : Bool
  data : Lanes
  lastBe : LaneMask
  deriving DecidableEq, Repr

/-- The inputs of a pipeline in a cycle (R50): the offered element with `sink.valid`, and `source.ready`. The four
element signals carry some value in every cycle, offered or not. -/
structure StreamIn where
  sinkValid : Bool
  sink : Element
  sourceReady : Bool
  deriving DecidableEq, Repr

/-- The three combinational functions, class COMB (R80). -/
inductive CombPort where
  | engNext
  | unitValue
  | unitError
  deriving DecidableEq, Repr

/-- What the step evaluates or clocks (R3). DESIGN CHOICE, log 1: one component a step. -/
inductive Clocked where
  | comb (p : CombPort)
  | unit
  | inserter
  | checker
  deriving DecidableEq, Repr

/-- The inputs of one step: the ports of every component, and which component is clocked. -/
structure Inputs where
  sel : Clocked
  engine : EngineIn
  unit : UnitIn
  ins : StreamIn
  chk : StreamIn
  deriving DecidableEq, Repr

/-- The cycle operations, one constructor per row of the opcode table (R80). The table gives no row an operand
field: operands are read from the ports. -/
inductive Instr where
  | engNext
  | unitValue
  | unitError
  | unitReset
  | unitUpdate
  | unitHold
  | insIdleWait
  | insIdleStart
  | insCopyWait
  | insCopyStall
  | insCopyXfer
  | insCopyLast
  | insAppendStall
  | insAppendChunk
  | insAppendFinal
  | chkReset
  | chkWait
  | chkFill
  | chkFillLast
  | chkStall
  | chkPass
  | chkPassLast
  deriving DecidableEq, Repr

/-- A decode word with its class (R72, R73, R75). Class COMB has no word: its functions are named (R80). -/
inductive DecodeWord where
  | comb (p : CombPort)
  | unitctl (w : BitVec 2)
  | insdec (w : BitVec 6)
  | chkdec (w : BitVec 6)
  deriving DecidableEq, Repr

end Sys2Proof
end

