-- ==== Sys2Proof/WellFormed.lean ====
section
/-! DEFINITION. The checks on instances, inputs, operations and decode words: what the spec admits. -/

namespace Sys2Proof

/-- A pipeline's width is admitted when DW is 8, 16 or 32 (R6). -/
def pipelineAdmitted (dwb : Nat) : Bool := dwb == 1 || dwb == 2 || dwb == 4

/-- A CRC32Unit is specified for every DWB of at least 1 (R6). -/
def unitAdmitted (dwb : Nat) : Bool := 1 ≤ dwb

/-- The instance's parameters are admitted (R6). -/
def Params.wf (p : Params) : Bool := unitAdmitted p.unitDwb && pipelineAdmitted p.insDwb && pipelineAdmitted p.chkDwb

/-- The element has a port's widths: DWB lanes of data and DWB bits of `last_be` (R15, R50). -/
def Element.wf (dwb : Nat) (e : Element) : Bool := e.data.length == dwb && e.lastBe.length == dwb

/-- An engine's data word has at least one bit (R100, R108); every such length is admitted in every step. DESIGN CHOICE
for a width that is not fixed, log 22. -/
def EngineIn.wf (x : EngineIn) : Bool := !x.data.isEmpty

/-- A unit's inputs have the unit's widths (R23). -/
def UnitIn.wf (dwb : Nat) (x : UnitIn) : Bool := x.data.length == dwb && x.lastBe.length == dwb

/-- A pipeline's inputs have the port's widths (R50). -/
def StreamIn.wf (dwb : Nat) (x : StreamIn) : Bool := x.sink.wf dwb

/-- Every port's inputs have that port's widths. -/
def Inputs.wf (p : Params) (x : Inputs) : Bool :=
  x.engine.wf && x.unit.wf p.unitDwb && x.ins.wf p.insDwb && x.chk.wf p.chkDwb

/-- An operation is one of an instance: its component's width is admitted (R6), and INS_APPEND_CHUNK has no place in
an Inserter of RATIO 1 (R148, R155). -/
def Instr.wf (p : Params) : Instr → Bool
  | .engNext => true
  | .unitValue => unitAdmitted p.unitDwb
  | .unitError => unitAdmitted p.unitDwb
  | .unitReset => unitAdmitted p.unitDwb
  | .unitUpdate => unitAdmitted p.unitDwb
  | .unitHold => unitAdmitted p.unitDwb
  | .insIdleWait => pipelineAdmitted p.insDwb
  | .insIdleStart => pipelineAdmitted p.insDwb
  | .insCopyWait => pipelineAdmitted p.insDwb
  | .insCopyStall => pipelineAdmitted p.insDwb
  | .insCopyXfer => pipelineAdmitted p.insDwb
  | .insCopyLast => pipelineAdmitted p.insDwb
  | .insAppendStall => pipelineAdmitted p.insDwb
  | .insAppendChunk => pipelineAdmitted p.insDwb && Config.ratio p.insDwb != 1
  | .insAppendFinal => pipelineAdmitted p.insDwb
  | .chkReset => pipelineAdmitted p.chkDwb
  | .chkWait => pipelineAdmitted p.chkDwb
  | .chkFill => pipelineAdmitted p.chkDwb
  | .chkFillLast => pipelineAdmitted p.chkDwb
  | .chkStall => pipelineAdmitted p.chkDwb
  | .chkPass => pipelineAdmitted p.chkDwb
  | .chkPassLast => pipelineAdmitted p.chkDwb

/-- The `s` field of a 6-bit decode word names a state: it is not `11` (R74, R76, R82). -/
def DecodeWord.wf : DecodeWord → Bool
  | .comb _ => true
  | .unitctl _ => true
  | .insdec w => w.extractLsb' 4 2 != 3#2
  | .chkdec w => w.extractLsb' 4 2 != 3#2

end Sys2Proof
end

