-- ==== Sys2Proof/Decode.lean ====
section
/-! DEFINITION. The decoder, the encoder and the packing of the decode words (spec 30_encoding R72 to R76, R80 to R82). -/

namespace Sys2Proof

/-- One row of the opcode map (R80). -/
structure OpRow (n : Nat) where
  instr : Instr
  mtch : BitVec n
  mask : BitVec n
  deriving DecidableEq, Repr

/-- "A row matches a decode word `w` when `(w & mask) == match`" (R80). -/
def rowHits {n : Nat} (r : OpRow n) (w : BitVec n) : Bool := w &&& r.mask == r.mtch

/-- The UNITCTL rows of R80. -/
def unitctlRows : List (OpRow 2) :=
  [⟨.unitReset, 0x2#2, 0x2#2⟩, ⟨.unitUpdate, 0x1#2, 0x3#2⟩, ⟨.unitHold, 0x0#2, 0x3#2⟩]

/-- The INSDEC rows of R80. -/
def insdecRows : List (OpRow 6) :=
  [⟨.insIdleWait, 0x00#6, 0x38#6⟩, ⟨.insIdleStart, 0x08#6, 0x38#6⟩, ⟨.insCopyWait, 0x10#6, 0x38#6⟩,
   ⟨.insCopyStall, 0x18#6, 0x3A#6⟩, ⟨.insCopyXfer, 0x1A#6, 0x3E#6⟩, ⟨.insCopyLast, 0x1E#6, 0x3E#6⟩,
   ⟨.insAppendStall, 0x20#6, 0x32#6⟩, ⟨.insAppendChunk, 0x22#6, 0x33#6⟩, ⟨.insAppendFinal, 0x23#6, 0x33#6⟩]

/-- The CHKDEC rows of R80. -/
def chkdecRows : List (OpRow 6) :=
  [⟨.chkReset, 0x20#6, 0x30#6⟩, ⟨.chkWait, 0x00#6, 0x28#6⟩, ⟨.chkFill, 0x08#6, 0x2D#6⟩,
   ⟨.chkFillLast, 0x0C#6, 0x2D#6⟩, ⟨.chkStall, 0x09#6, 0x2B#6⟩, ⟨.chkPass, 0x0B#6, 0x2F#6⟩,
   ⟨.chkPassLast, 0x0F#6, 0x2F#6⟩]

/-- The first row a word matches. -/
def findRow {n : Nat} (rows : List (OpRow n)) (w : BitVec n) : Option (OpRow n) := rows.find? (rowHits · w)

/-- The decoder: total on every decode word; a word that matches no row (s = 11) has no operation (R81, R82). -/
def decode : DecodeWord → Option Instr
  | .comb .engNext => some .engNext
  | .comb .unitValue => some .unitValue
  | .comb .unitError => some .unitError
  | .unitctl w => (findRow unitctlRows w).map (·.instr)
  | .insdec w => (findRow insdecRows w).map (·.instr)
  | .chkdec w => (findRow chkdecRows w).map (·.instr)

/-- The encoder: an operation's match word in its class (R80). -/
def encode : Instr → DecodeWord
  | .engNext => .comb .engNext
  | .unitValue => .comb .unitValue
  | .unitError => .comb .unitError
  | .unitReset => .unitctl 0b10#2
  | .unitUpdate => .unitctl 0b01#2
  | .unitHold => .unitctl 0b00#2
  | .insIdleWait => .insdec 0b00_0_0_0_0#6
  | .insIdleStart => .insdec 0b00_1_0_0_0#6
  | .insCopyWait => .insdec 0b01_0_0_0_0#6
  | .insCopyStall => .insdec 0b01_1_0_0_0#6
  | .insCopyXfer => .insdec 0b01_1_0_1_0#6
  | .insCopyLast => .insdec 0b01_1_1_1_0#6
  | .insAppendStall => .insdec 0b10_0_0_0_0#6
  | .insAppendChunk => .insdec 0b10_0_0_1_0#6
  | .insAppendFinal => .insdec 0b10_0_0_1_1#6
  | .chkReset => .chkdec 0b10_0_0_0_0#6
  | .chkWait => .chkdec 0b00_0_0_0_0#6
  | .chkFill => .chkdec 0b00_1_0_0_0#6
  | .chkFillLast => .chkdec 0b00_1_1_0_0#6
  | .chkStall => .chkdec 0b00_1_0_0_1#6
  | .chkPass => .chkdec 0b00_1_0_1_1#6
  | .chkPassLast => .chkdec 0b00_1_1_1_1#6

/-- The Inserter's state encoding (R74). -/
def insCode : InsState → BitVec 2
  | .idle => 0b00#2
  | .copy => 0b01#2
  | .append => 0b10#2

/-- The Checker's state encoding (R76). -/
def chkCode : ChkState → BitVec 2
  | .idle => 0b00#2
  | .active => 0b01#2
  | .reset => 0b10#2

/-- The state a 2-bit code names; `11` names none (R74, R82). -/
def insOfCode (c : BitVec 2) : Option InsState :=
  if c = 0b00#2 then some .idle else if c = 0b01#2 then some .copy else if c = 0b10#2 then some .append else none

/-- The state a 2-bit code names; `11` names none (R76, R82). -/
def chkOfCode (c : BitVec 2) : Option ChkState :=
  if c = 0b00#2 then some .idle else if c = 0b01#2 then some .active else if c = 0b10#2 then some .reset else none

/-- UNITCTL: bit 1 = `reset`, bit 0 = `enable` (R72). -/
def packUnitctl (reset enable : Bool) : BitVec 2 := BitVec.ofBool reset ++ BitVec.ofBool enable

/-- INSDEC and CHKDEC: `s` in 5:4, `v` in 3, `l` in 2, `r` in 1, and `c` or `f` in 0 (R73, R75). -/
def packWord (s : BitVec 2) (v l r c : Bool) : BitVec 6 :=
  s ++ (BitVec.ofBool v ++ (BitVec.ofBool l ++ (BitVec.ofBool r ++ BitVec.ofBool c)))

/-- How many bits of the word a row fixes. -/
def maskSize {n : Nat} (r : OpRow n) : Nat := (List.range n).countP (fun i => r.mask.getLsbD i)

/-- The decode word a bare number of the opcode table stands for. The table numbers the words of its classes from 0
and a number does not say which class it is of, so one must be chosen: a number of two bits is a UNITCTL word; of
INSDEC and CHKDEC the class whose matching row fixes more bits, INSDEC where they fix the same. DESIGN CHOICE, log 13:
safe, the machine never decodes a bare number. -/
def tableWord (w : Nat) : Option DecodeWord :=
  if w < 4 then some (.unitctl (BitVec.ofNat 2 w))
  else if w < 64 then
    match findRow insdecRows (BitVec.ofNat 6 w), findRow chkdecRows (BitVec.ofNat 6 w) with
    | some i, some c => if maskSize i < maskSize c then some (.chkdec (BitVec.ofNat 6 w)) else some (.insdec (BitVec.ofNat 6 w))
    | some _, none => some (.insdec (BitVec.ofNat 6 w))
    | none, some _ => some (.chkdec (BitVec.ofNat 6 w))
    | none, none => none
  else none

/-- The operation the decoder reads from a table number of `nbits` bits: every row with a word has at most 8
(in whole bytes); the rows of class COMB have no word (R80). -/
def decodeTableWord (nbits w : Nat) : Option Instr := if nbits = 8 then (tableWord w).bind decode else none

end Sys2Proof
end

