-- ==== Sys2Proof/Machine/State.lean ====
section
/-! DEFINITION. The state of the block (spec 10_state R20), the reasons a step can stop, and reset (R35, R220). -/

namespace Sys2Proof.Machine

/-- The Inserter: `st`, `cnt`, `lbe_l` and its CRC32Unit's `crc[]` (R24 to R27). -/
structure Inserter where
  st : InsState
  cnt : Nat
  lbe : LaneMask
  crc : List Crc
  deriving DecidableEq, Repr

/-- The Checker: `st`, the staging buffer `B` (oldest first) and its CRC32Unit's `crc[]` (R28 to R30). -/
structure Checker where
  st : ChkState
  buf : List Element
  crc : List Crc
  deriving DecidableEq, Repr

/-- The outputs of a pipeline in a cycle (R50). -/
structure StreamOut where
  sinkReady : Bool
  sourceValid : Bool
  source : Element
  deriving DecidableEq, Repr

/-- The outputs of the component a step clocked (R13, R36). -/
inductive CycleOut where
  | none
  | engine (next : Crc)
  | unitValue (value : Crc)
  | unitError (error : Bool)
  | unit (value : Crc) (error : Bool)
  | inserter (port : StreamOut)
  | checker (port : StreamOut) (errorPulse : Bool)
  deriving DecidableEq, Repr

/-- The machine. `unit`, `ins` and `chk` are the spec's state (R20); `params` is fixed (R8); `inputs` and `script` are
the environment's (log 5); `out` is what the last cycle put out, and no operation reads it (R36, log 7); `draw` counts
the cycles and indexes the free values (log 8). -/
structure State where
  params : Params
  unit : List Crc
  ins : Inserter
  chk : Checker
  inputs : Inputs
  script : List Inputs
  out : CycleOut
  draw : Nat
  deriving DecidableEq, Repr

/-- The cycle's effect of a function of class COMB: its output and nothing else (R13). -/
def State.setOut (s : State) (o : CycleOut) : State := { s with out := o }

/-- The cycle's effect on the standalone unit: its bank and the outputs. -/
def State.setUnit (s : State) (crc : List Crc) (o : CycleOut) : State := { s with unit := crc, out := o }

/-- The cycle's effect on the Inserter: its state and the outputs. -/
def State.setIns (s : State) (ins : Inserter) (o : StreamOut) : State := { s with ins := ins, out := .inserter o }

/-- The cycle's effect on the Checker: its state and the outputs. -/
def State.setChk (s : State) (chk : Checker) (o : StreamOut) (pulse : Bool) : State :=
  { s with chk := chk, out := .checker o pulse }

/-- No operation of the block traps (R200), so no meaning raises a fault. -/
inductive Fault where
  /-- Raised by `step` alone, when the decode word matches no row ("stuck", R82). Safe: it stops, and no state
  reaches it. -/
  | stuck
  deriving DecidableEq, Repr

/-- Why a step has no meaning. -/
inductive Refusal where
  /-- Raised by an arm of `exec` for an operation that has no meaning yet. Safe. No arm raises it. -/
  | notModelled (mnemonic : String)
  /-- Raised by every operation of a pipeline whose DW is not 8, 16 or 32 and of a unit with no lanes: "a model
  refuses it" (R6). Safe. -/
  | unadmittedWidth
  /-- Raised by every operation whose component's inputs have not the port's widths, or an engine word of no bits:
  they are no value of the port (R50, R100, log 11). Safe. -/
  | illFormedInput
  deriving DecidableEq, Repr

/-- An element of zeros, of a port of `dwb` lanes. -/
def zeroElement (dwb : Nat) : Element := ⟨List.replicate dwb 0#8, false, List.replicate dwb false, false⟩

/-- A pipeline's inputs all zero: nothing offered, downstream not ready. -/
def idleStream (dwb : Nat) : StreamIn := ⟨false, zeroElement dwb, false⟩

/-- Every input zero, the given component clocked, the engine's data word of 8 bits. DESIGN CHOICE for the inputs after
reset, log 6, and for the engine's width, log 22: unsafe. -/
def idleInputs (p : Params) (sel : Clocked) : Inputs where
  sel := sel
  engine := ⟨0#32, List.replicate 8 false⟩
  unit := ⟨false, false, List.replicate p.unitDwb 0#8, List.replicate p.unitDwb false⟩
  ins := idleStream p.insDwb
  chk := idleStream p.chkDwb

/-- The reset state of an instance (R35, R220), with the parts the spec leaves unspecified as arguments: the latch
`lbe_l` (R26) and the contents of the staging buffer (R29). -/
def State.resetOf (p : Params) (lbe : LaneMask) (buf : List Element) : State where
  params := p
  unit := List.replicate p.unitDwb Config.init
  ins := ⟨.idle, 0, lbe, List.replicate p.insDwb Config.init⟩
  chk := ⟨.reset, buf, List.replicate p.chkDwb Config.init⟩
  inputs := idleInputs p .inserter
  script := []
  out := .none
  draw := 0

/-- The instance of `State.reset`: a unit of 4 lanes, pipelines of DW = 8. DESIGN CHOICE, log 3: unsafe. -/
def resetParams : Params := ⟨4, 1, 1, .powerOnOnly⟩

/-- The machine right after reset. DESIGN CHOICE where the spec leaves a value open, log 3, log 4, log 6: unsafe. -/
def State.reset : State := State.resetOf resetParams (List.replicate resetParams.insDwb false) []

end Sys2Proof.Machine
end

