-- ==== Sys2Proof/Machine/Operands.lean ====
section
/-! DEFINITION. The operand forms (spec 30_encoding R77 to R79, 41_crc32unit R126): data bits, the sub-engine's slice,
the lane a mask selects, the chunk of a 32-bit value, one-hot masks, and the flag operands `c` and `f`. -/

namespace Sys2Proof.Machine

/-- The bits of a byte, bit 0 first (R55). -/
def byteBits (b : Byte) : List Bool := (List.range 8).map b.getLsbD

/-- The data bits of the lanes in the order they enter the recurrence: bit 0 upward, lane 0 before lane 1 (R55). -/
def laneBits (d : Lanes) : List Bool := d.flatMap byteBits

/-- The data operand of sub-engine `k`, `data[8(k+1)-1:0]`: lanes `0..k` (R77). -/
def subWord (d : Lanes) (k : Nat) : Lanes := d.take (k + 1)

/-- The positions of the set bits of a mask, from position `at0`. -/
def setLanesFrom : Nat → LaneMask → List Nat
  | _, [] => []
  | at0, b :: m => if b then at0 :: setLanesFrom (at0 + 1) m else setLanesFrom (at0 + 1) m

/-- The positions of the set bits of a mask, lowest first. -/
def setLanes (m : LaneMask) : List Nat := setLanesFrom 0 m

/-- The lane selector `sel(last_be)` (R126): the top lane for 0, lane `k` for `1 << k`, none for two bits or more
(R129). The zero case is the source's untested default (log 14). -/
def laneSel (dwb : Nat) (m : LaneMask) : Option Nat :=
  match setLanes m with
  | [] => some (dwb - 1)
  | [k] => some k
  | _ :: _ :: _ => none

/-- The mask `1 << k` of `dwb` bits. -/
def oneHot (dwb k : Nat) : LaneMask := (List.range dwb).map (· == k)

/-- The mask 0 of `dwb` bits. -/
def noLanes (dwb : Nat) : LaneMask := List.replicate dwb false

/-- Byte `i` of a 32-bit value, `v[8i+7:8i]`. -/
def crcByte (v : Crc) (i : Nat) : Byte := v.extractLsb' (8 * i) 8

/-- `chunk(v, i) = v[DW(i+1)-1 : DW*i]` as its byte lanes (R78). -/
def chunk (dwb : Nat) (v : Crc) (i : Nat) : Lanes := (List.range dwb).map (fun j => crcByte v (dwb * i + j))

/-- The flag operand `c`: `cnt == RATIO-1` (R79). -/
def insFinal (s : State) : Bool := s.ins.cnt == Config.ratio s.params.insDwb - 1

/-- The flag operand `f`, `full`: `L == RATIO` (R79, R171). -/
def chkFull (s : State) : Bool := s.chk.buf.length == Config.ratio s.params.chkDwb

end Sys2Proof.Machine
end

