-- ==== Sys2Proof/Machine/Flags.lean ====
section
/-! DEFINITION. The CRC functions and the status signals (spec 10_state R32: the block stores no flag): the engine
(40_engine R100, R101), the unit's lane next state, `value` and `error` (41_crc32unit R121, R127, R128), and the
Checker's `crcerr` and `source.error` (43_checker R173, R174). -/

namespace Sys2Proof.Machine

/-- STEP, one step of the bit-serial recurrence (R101): the bit shifted out of bit 31 is XORed with the data bit, and
fed back into every tap of `P`; the state shifts toward the higher bit index (C2). -/
def crcStep (s : Crc) (b : Bool) : Crc :=
  (s <<< 1) ^^^ (if s.getLsbD 31 ^^ b then Config.poly else 0#32)

/-- `ENG_W(s, d)`: the data bits folded low to high (R100). `W` is the number of bits. -/
def engine (s : Crc) (d : List Bool) : Crc := d.foldl crcStep s

/-- `rev32(v)`: bit `i` of the result is bit `31-i` of `v` (R11). -/
def rev32 (v : Crc) : Crc := v.reverse

/-- Register `k` of a lane bank. Every read of a well-formed bank is of a lane it has; the 0 for another is never
read (log 17). -/
def laneReg (crc : List Crc) (k : Nat) : Crc := crc.getD k 0#32

/-- `nxt[k] = ENG_{8(k+1)}(crc[DWB-1], data[8(k+1)-1:0])` (R121). -/
def laneNext (dwb : Nat) (crc : List Crc) (d : Lanes) (k : Nat) : Crc :=
  engine (laneReg crc (dwb - 1)) (laneBits (subWord d k))

/-- The output form of a raw register: `~rev32(.)` (R127). -/
def crcOutput (r : Crc) : Crc := ~~~ rev32 r

/-- The unit's `value` port: the selected register's output form; a free value for a mask of two bits or more
(R127, R129). -/
def unitValuePort (dwb : Nat) (crc : List Crc) (be : LaneMask) (draw : Nat) : Crc :=
  match laneSel dwb be with
  | some k => crcOutput (laneReg crc k)
  | none => Config.freeUnitValue draw

/-- The unit's `error` port: the selected lane's next state differs from the residue; a free bit for a mask of two
bits or more (R128, R129). -/
def unitErrorPort (dwb : Nat) (crc : List Crc) (d : Lanes) (be : LaneMask) (draw : Nat) : Bool :=
  match laneSel dwb be with
  | some k => laneNext dwb crc d k != Config.residue
  | none => Config.freeUnitError draw

/-- The residue test `crcerr = UNIT_ERROR(sink.data, sink.last_be)` on the Checker's unit (R170, R174). -/
def chkCrcErr (s : State) : Bool :=
  unitErrorPort s.params.chkDwb s.chk.crc s.inputs.chk.sink.data s.inputs.chk.sink.lastBe s.draw

/-- The error bit of a packet's final released element (R173): the OR of every buffered element's bit, the incoming
element's and `crcerr`. -/
def chkFinalError (s : State) : Bool := s.chk.buf.any (·.error) || s.inputs.chk.sink.error || chkCrcErr s

/-- The Checker's `source.error` for the released element `b` (R173). -/
def chkSourceError (s : State) (b : Element) : Bool := if s.inputs.chk.sink.last then chkFinalError s else b.error

end Sys2Proof.Machine
end

