-- ==== Sys2Proof/Machine/Ops.lean ====
section
/-! DEFINITION. The named operations over the lane banks, the staging buffer and the ports, and the shared end of
every operation of a component. The block takes no exception (spec 60_exceptions R200, R207), so there is no entry and
no return. -/

namespace Sys2Proof.Machine

/-- UNIT_RESET's effect on a bank: every lane to INIT (R122). -/
def bankReset (dwb : Nat) : List Crc := List.replicate dwb Config.init

/-- UNIT_UPDATE's effect on a bank: every lane to `nxt[k]`, all from the same start-of-cycle register (R123). -/
def bankUpdate (dwb : Nat) (crc : List Crc) (d : Lanes) : List Crc := (List.range dwb).map (laneNext dwb crc d)

/-- UNIT_HOLD's effect on a bank: none (R124). -/
def bankHold (crc : List Crc) : List Crc := crc

/-- `push(B, e)`: append at the tail (R14). -/
def push (buf : List Element) (e : Element) : List Element := buf ++ [e]

/-- `pop(B)`: remove `B[0]` (R14). -/
def pop (buf : List Element) : List Element := buf.tail

/-- The payload of a source port with `source.valid = 0`: free values of the port's widths (R65). -/
def freePayload (dwb draw : Nat) : Element where
  data := (List.range dwb).map (Config.freeSourceByte draw)
  last := Config.freeSourceLast draw
  lastBe := (List.range dwb).map (Config.freeSourceLastBe draw)
  error := Config.freeSourceError draw

/-- `sink.ready` of a rule that states it for `sink.valid = 1` only: free otherwise (R65). -/
def readyIfOffered (x : StreamIn) (ready : Bool) (draw : Nat) : Bool :=
  if x.sinkValid then ready else Config.freeSinkReady draw

/-- The outputs of a pipeline that offers nothing downstream. -/
def silent (dwb draw : Nat) (sinkReady : Bool) : StreamOut := ⟨sinkReady, false, freePayload dwb draw⟩

/-- The end of every operation of the standalone unit: the bank takes its new value, and the two ports show the OLD
registers (R13, R122, R124). -/
def onUnit (s : State) (crc : List Crc) (o : CycleOut) : Host.Outcome State Fault Refusal :=
  if unitAdmitted s.params.unitDwb then
    if s.inputs.unit.wf s.params.unitDwb then .next (s.setUnit crc o)
    else .refused .illFormedInput
  else .refused .unadmittedWidth

/-- The end of every operation of the Inserter. -/
def onInserter (s : State) (ins : Inserter) (o : StreamOut) : Host.Outcome State Fault Refusal :=
  if pipelineAdmitted s.params.insDwb then
    if s.inputs.ins.wf s.params.insDwb then .next (s.setIns ins o)
    else .refused .illFormedInput
  else .refused .unadmittedWidth

/-- The end of every operation of the Checker. -/
def onChecker (s : State) (chk : Checker) (o : StreamOut) (pulse : Bool) : Host.Outcome State Fault Refusal :=
  if pipelineAdmitted s.params.chkDwb then
    if s.inputs.chk.wf s.params.chkDwb then .next (s.setChk chk o pulse)
    else .refused .illFormedInput
  else .refused .unadmittedWidth

/-- The ports of the standalone unit in a clocked cycle, from the registers before it and the cycle's inputs. -/
def unitPorts (s : State) : CycleOut :=
  .unit (unitValuePort s.params.unitDwb s.unit s.inputs.unit.lastBe s.draw)
    (unitErrorPort s.params.unitDwb s.unit s.inputs.unit.data s.inputs.unit.lastBe s.draw)

end Sys2Proof.Machine
end

