-- ==== Sys2Proof/Machine/Checker.lean ====
section
/-! DEFINITION. The operations of the Checker (spec 43_checker R170 to R182). -/

namespace Sys2Proof.Machine

/-- The payload with `data` and `last_be` of `B[0]` (R172) and the given `last` and `error`. The operations that
release need a full buffer, so `B[0]` exists; without one the payload is free (log 10). -/
def released (s : State) (last : Bool) (error : Element → Bool) : Element :=
  match s.chk.buf with
  | [] => freePayload s.params.chkDwb s.draw
  | b :: _ => ⟨b.data, last, b.lastBe, error b⟩

/-- The Checker's unit updated with the incoming element (R170, R123). -/
def chkFold (s : State) : List Crc := bankUpdate s.params.chkDwb s.chk.crc s.inputs.chk.sink.data

/-- "If `st = IDLE`, then `st <- ACTIVE`" (R178, R181). -/
def activated (st : ChkState) : ChkState := if st = .idle then .active else st

/-- CHK_RESET (R176): the unit is reset and the buffer emptied without being read. -/
def execChkReset (s : State) : Host.Outcome State Fault Refusal :=
  onChecker s ⟨.idle, [], bankReset s.params.chkDwb⟩
    (silent s.params.chkDwb s.draw (readyIfOffered s.inputs.chk false s.draw)) false

/-- CHK_WAIT (R177). -/
def execChkWait (s : State) : Host.Outcome State Fault Refusal :=
  onChecker s { s.chk with crc := bankHold s.chk.crc }
    (silent s.params.chkDwb s.draw (Config.freeSinkReady s.draw)) false

/-- CHK_FILL (R178). -/
def execChkFill (s : State) : Host.Outcome State Fault Refusal :=
  onChecker s ⟨activated s.chk.st, push s.chk.buf s.inputs.chk.sink, chkFold s⟩
    (silent s.params.chkDwb s.draw true) false

/-- CHK_FILL_LAST (R179). -/
def execChkFillLast (s : State) : Host.Outcome State Fault Refusal :=
  onChecker s ⟨.reset, push s.chk.buf s.inputs.chk.sink, chkFold s⟩ (silent s.params.chkDwb s.draw true) false

/-- CHK_STALL (R180): the payload of R172 and R173 is shown, nothing is committed. -/
def execChkStall (s : State) : Host.Outcome State Fault Refusal :=
  onChecker s { s.chk with crc := bankHold s.chk.crc } ⟨false, true, released s s.inputs.chk.sink.last (chkSourceError s)⟩ false

/-- CHK_PASS (R181): pop, then push (R61); a non-final element leaves with its own error bit. -/
def execChkPass (s : State) : Host.Outcome State Fault Refusal :=
  onChecker s ⟨activated s.chk.st, push (pop s.chk.buf) s.inputs.chk.sink, chkFold s⟩
    ⟨true, true, released s false (·.error)⟩ false

/-- CHK_PASS_LAST (R182): the packet's final data element leaves, with the OR of R173, and
`error_pulse = crcerr` (R175). -/
def execChkPassLast (s : State) : Host.Outcome State Fault Refusal :=
  onChecker s ⟨.reset, push (pop s.chk.buf) s.inputs.chk.sink, chkFold s⟩
    ⟨true, true, released s true (fun _ => chkFinalError s)⟩ (chkCrcErr s)

end Sys2Proof.Machine
end

