-- ==== Sys2Proof/Machine/CrcUnit.lean ====
section
/-! DEFINITION. The operations of the CRC32Unit (spec 41_crc32unit R122 to R129). -/

namespace Sys2Proof.Machine

/-- UNIT_RESET (R122): every lane to INIT; reset wins over enable (R125). -/
def execUnitReset (s : State) : Host.Outcome State Fault Refusal :=
  onUnit s (bankReset s.params.unitDwb) (unitPorts s)

/-- UNIT_UPDATE (R123): every lane to its next state; `last_be` does not matter. -/
def execUnitUpdate (s : State) : Host.Outcome State Fault Refusal :=
  onUnit s (bankUpdate s.params.unitDwb s.unit s.inputs.unit.data) (unitPorts s)

/-- UNIT_HOLD (R124): nothing changes; both ports are still evaluated. -/
def execUnitHold (s : State) : Host.Outcome State Fault Refusal :=
  onUnit s (bankHold s.unit) (unitPorts s)

/-- UNIT_VALUE (R127): the output form of the selected register. -/
def execUnitValue (s : State) : Host.Outcome State Fault Refusal :=
  onUnit s s.unit (.unitValue (unitValuePort s.params.unitDwb s.unit s.inputs.unit.lastBe s.draw))

/-- UNIT_ERROR (R128): the residue test on the selected lane's next state. -/
def execUnitError (s : State) : Host.Outcome State Fault Refusal :=
  onUnit s s.unit (.unitError (unitErrorPort s.params.unitDwb s.unit s.inputs.unit.data s.inputs.unit.lastBe s.draw))

end Sys2Proof.Machine
end

