-- ==== Sys2Proof/Machine/Engine.lean ====
section
/-! DEFINITION. ENG_NEXT (spec 40_engine R100). -/

namespace Sys2Proof.Machine

/-- ENG_NEXT (R100): a combinational function of its two operands; nothing but the output changes (R21, R107). An
engine word of no bits is no operand (`W >= 1`). The engine evaluated is the one of the operand's width. DESIGN CHOICE,
log 22. -/
def execEngNext (s : State) : Host.Outcome State Fault Refusal :=
  if s.inputs.engine.wf then .next (s.setOut (.engine (engine s.inputs.engine.state s.inputs.engine.data)))
  else .refused .illFormedInput

end Sys2Proof.Machine
end

