-- ==== Sys2Proof/Machine/Inserter.lean ====
section
/-! DEFINITION. The operations of the Inserter (spec 42_inserter R141 to R152). -/

namespace Sys2Proof.Machine

/-- The element COPY puts out: the sink's, with `last` suppressed (R144 to R146). -/
def passed (e : Element) : Element := { e with last := false }

/-- The outputs of COPY with an element offered: both ports see the other's handshake (R144 to R146). -/
def copyOut (s : State) (ready : Bool) : StreamOut := ⟨ready, true, passed s.inputs.ins.sink⟩

/-- The CRC value of APPEND, `UNIT_VALUE(lbe_l)` on the Inserter's unit (R140, R151, R152). -/
def insValue (s : State) : Crc := unitValuePort s.params.insDwb s.ins.crc s.ins.lbe s.draw

/-- The trailer element of the current `cnt` (R151). -/
def trailerElement (s : State) : Element where
  data := chunk s.params.insDwb (insValue s) s.ins.cnt
  last := insFinal s
  lastBe := if insFinal s then oneHot s.params.insDwb (s.params.insDwb - 1) else noLanes s.params.insDwb
  error := false

/-- The outputs of APPEND: the trailer element is offered, and an offered sink element waits (R147 to R149). -/
def appendOut (s : State) : StreamOut := ⟨readyIfOffered s.inputs.ins false s.draw, true, trailerElement s⟩

/-- INS_IDLE_WAIT (R141). -/
def execInsIdleWait (s : State) : Host.Outcome State Fault Refusal :=
  onInserter s { s.ins with crc := bankReset s.params.insDwb, cnt := 0 }
    (silent s.params.insDwb s.draw (Config.freeSinkReady s.draw))

/-- INS_IDLE_START (R142): the element is looked at and not taken. -/
def execInsIdleStart (s : State) : Host.Outcome State Fault Refusal :=
  onInserter s { s.ins with crc := bankReset s.params.insDwb, cnt := 0, st := .copy }
    (silent s.params.insDwb s.draw false)

/-- INS_COPY_WAIT (R143). -/
def execInsCopyWait (s : State) : Host.Outcome State Fault Refusal :=
  onInserter s { s.ins with crc := bankHold s.ins.crc } (silent s.params.insDwb s.draw (Config.freeSinkReady s.draw))

/-- INS_COPY_STALL (R144). -/
def execInsCopyStall (s : State) : Host.Outcome State Fault Refusal :=
  onInserter s { s.ins with crc := bankHold s.ins.crc } (copyOut s false)

/-- INS_COPY_XFER (R145). -/
def execInsCopyXfer (s : State) : Host.Outcome State Fault Refusal :=
  onInserter s { s.ins with crc := bankUpdate s.params.insDwb s.ins.crc s.inputs.ins.sink.data } (copyOut s true)

/-- INS_COPY_LAST (R146): the latch takes the final element's `last_be` (R152). -/
def execInsCopyLast (s : State) : Host.Outcome State Fault Refusal :=
  onInserter s ⟨.append, 0, s.inputs.ins.sink.lastBe, bankUpdate s.params.insDwb s.ins.crc s.inputs.ins.sink.data⟩
    (copyOut s true)

/-- INS_APPEND_STALL (R147). -/
def execInsAppendStall (s : State) : Host.Outcome State Fault Refusal :=
  onInserter s { s.ins with crc := bankHold s.ins.crc } (appendOut s)

/-- INS_APPEND_CHUNK (R148). -/
def execInsAppendChunk (s : State) : Host.Outcome State Fault Refusal :=
  onInserter s { s.ins with crc := bankHold s.ins.crc, cnt := s.ins.cnt + 1 } (appendOut s)

/-- INS_APPEND_FINAL (R149). -/
def execInsAppendFinal (s : State) : Host.Outcome State Fault Refusal :=
  onInserter s { s.ins with crc := bankHold s.ins.crc, cnt := 0, st := .idle } (appendOut s)

end Sys2Proof.Machine
end

