-- ==== Sys2Proof/Machine/Dispatch.lean ====
section
/-! DEFINITION. One arm per cycle operation: its meaning. -/

namespace Sys2Proof.Machine

def exec (i : Instr) (s : State) : Host.Outcome State Fault Refusal :=
  match i with
  | .engNext => Sys2Proof.Machine.execEngNext s
  | .unitValue => Sys2Proof.Machine.execUnitValue s
  | .unitError => Sys2Proof.Machine.execUnitError s
  | .unitReset => Sys2Proof.Machine.execUnitReset s
  | .unitUpdate => Sys2Proof.Machine.execUnitUpdate s
  | .unitHold => Sys2Proof.Machine.execUnitHold s
  | .insIdleWait => Sys2Proof.Machine.execInsIdleWait s
  | .insIdleStart => Sys2Proof.Machine.execInsIdleStart s
  | .insCopyWait => Sys2Proof.Machine.execInsCopyWait s
  | .insCopyStall => Sys2Proof.Machine.execInsCopyStall s
  | .insCopyXfer => Sys2Proof.Machine.execInsCopyXfer s
  | .insCopyLast => Sys2Proof.Machine.execInsCopyLast s
  | .insAppendStall => Sys2Proof.Machine.execInsAppendStall s
  | .insAppendChunk => Sys2Proof.Machine.execInsAppendChunk s
  | .insAppendFinal => Sys2Proof.Machine.execInsAppendFinal s
  | .chkReset => Sys2Proof.Machine.execChkReset s
  | .chkWait => Sys2Proof.Machine.execChkWait s
  | .chkFill => Sys2Proof.Machine.execChkFill s
  | .chkFillLast => Sys2Proof.Machine.execChkFillLast s
  | .chkStall => Sys2Proof.Machine.execChkStall s
  | .chkPass => Sys2Proof.Machine.execChkPass s
  | .chkPassLast => Sys2Proof.Machine.execChkPassLast s

end Sys2Proof.Machine
end

