-- ==== Sys2Proof/Machine/Cycle.lean ====
section
/-! DEFINITION. What a step adds around an operation: the decode word of the cycle (spec 30_encoding R72 to R76), the
end of the cycle, and placing a table number as the next cycle's decode word. -/

namespace Sys2Proof.Machine

/-- INSDEC of the coming cycle (R73, R74, R79). -/
def insWord (s : State) : BitVec 6 :=
  packWord (insCode s.ins.st) s.inputs.ins.sinkValid s.inputs.ins.sink.last s.inputs.ins.sourceReady (insFinal s)

/-- CHKDEC of the coming cycle (R75, R76, R79). -/
def chkWord (s : State) : BitVec 6 :=
  packWord (chkCode s.chk.st) s.inputs.chk.sinkValid s.inputs.chk.sink.last s.inputs.chk.sourceReady (chkFull s)

/-- The decode word of the clocked component. -/
def cycleWord (s : State) : DecodeWord :=
  match s.inputs.sel with
  | .comb p => .comb p
  | .unit => .unitctl (packUnitctl s.inputs.unit.reset s.inputs.unit.enable)
  | .inserter => .insdec (insWord s)
  | .checker => .chkdec (chkWord s)

/-- The end of a cycle: the next cycle draws fresh values, and its inputs are the script's next, or the same again
where the script has ended. DESIGN CHOICE, log 5. -/
def endCycle (s : State) : State :=
  match s.script with
  | [] => { s with draw := s.draw + 1 }
  | x :: rest => { s with inputs := x, script := rest, draw := s.draw + 1 }

/-- Set what UNITCTL is made of (R72). -/
def placeUnitctl (s : State) (w : BitVec 2) : State :=
  { s with inputs := { s.inputs with
      sel := .unit
      unit := { s.inputs.unit with reset := w.getLsbD 1, enable := w.getLsbD 0 } } }

/-- A pipeline's inputs with the handshake bits and `last` of a decode word (R73, R75). -/
def placeStream (x : StreamIn) (w : BitVec 6) : StreamIn :=
  ⟨w.getLsbD 3, { x.sink with last := w.getLsbD 2 }, w.getLsbD 1⟩

/-- A chunk counter with the given `c` bit: the final chunk, or one that is not. -/
def placeCnt (dwb : Nat) (c : Bool) : Nat :=
  if c then Config.ratio dwb - 1 else if Config.ratio dwb = 1 then 1 else 0

/-- A staging buffer with the given `f` bit: RATIO elements of zeros, or none. -/
def placeBuf (dwb : Nat) (f : Bool) : List Element := if f then List.replicate (Config.ratio dwb) (zeroElement dwb) else []

/-- Set what INSDEC is made of: the state, the handshake, and `cnt` (R73). -/
def placeInsdec (s : State) (st : InsState) (w : BitVec 6) : State :=
  { s with
    inputs := { s.inputs with sel := .inserter, ins := placeStream s.inputs.ins w }
    ins := { s.ins with st := st, cnt := placeCnt s.params.insDwb (w.getLsbD 0) } }

/-- Set what CHKDEC is made of: the state, the handshake, and the buffer's occupancy (R75). -/
def placeChkdec (s : State) (st : ChkState) (w : BitVec 6) : State :=
  { s with
    inputs := { s.inputs with sel := .checker, chk := placeStream s.inputs.chk w }
    chk := { s.chk with st := st, buf := placeBuf s.params.chkDwb (w.getLsbD 0) } }

/-- Make a decode word the coming cycle's. A word with s = 11 is no cycle's (R82): the state stays as it is. -/
def placeWord (s : State) : DecodeWord → State
  | .comb p => { s with inputs := { s.inputs with sel := .comb p } }
  | .unitctl w => placeUnitctl s w
  | .insdec w => match insOfCode (w.extractLsb' 4 2) with
    | some st => placeInsdec s st w
    | none => s
  | .chkdec w => match chkOfCode (w.extractLsb' 4 2) with
    | some st => placeChkdec s st w
    | none => s

/-- Make a table number's operation the coming cycle's (log 12, log 13). -/
def placeTableWord (s : State) (nbits w : Nat) : State :=
  if nbits = 8 then
    match tableWord w with
    | some d => placeWord s d
    | none => s
  else s

end Sys2Proof.Machine
end

