-- ==== Sys2Proof/Machine/Step.lean ====
section
/-! DEFINITION. One step: one cycle of the clocked component. -/

namespace Sys2Proof.Machine

/-- Decode the cycle's word, run its operation, end the cycle (spec 00_scope R3, R13). -/
def step (s : State) : Host.Outcome State Fault Refusal :=
  match decode (cycleWord s) with
  | none => .fault .stuck
  | some i =>
    match exec i s with
    | .next t => .next (endCycle t)
    | .fault r => .fault r
    | .refused r => .refused r

/-- The state with a table number's operation as its coming cycle's (log 12). -/
def State.withFetchWord (s : State) (nbits w : Nat) : State := placeTableWord s nbits w

end Sys2Proof.Machine
end

