-- ==== Sys2Proof/Machine/Derivation.lean ====
section
/-! DEFINITION. The source's build-time derivation of the engine's XOR network (spec 40_engine R102 to R104), and the
network's evaluation. The engine itself is `engine`; no operation runs the derivation. -/

namespace Sys2Proof.Machine

/-- An identifier of the derivation: `state j` or `data i` (R102). -/
inductive NetRef where
  | state (j : Nat)
  | data (i : Nat)
  deriving DecidableEq, Repr

/-- Reduction mod 2: an identifier that appears an even number of times cancels (R103). -/
def reduceSlot : List NetRef → List NetRef
  | [] => []
  | r :: rs => if r ∈ reduceSlot rs then (reduceSlot rs).erase r else r :: reduceSlot rs

/-- The identity mapping: `slot[j]` is `{ state j }` (R102). -/
def startSlots : List (List NetRef) := (List.range 32).map (fun j => [.state j])

/-- One turn of the derivation, for data bit `i` (R102), without the reduction. -/
def deriveTurn (slots : List (List NetRef)) (i : Nat) : List (List NetRef) :=
  let fb := slots.getD 31 [] ++ [.data i]
  fb :: (List.range 31).map (fun j => slots.getD j [] ++ if Config.poly.getLsbD (j + 1) then fb else [])

/-- The network of width `W`, every slot reduced after every turn (R102). -/
def network (w : Nat) : List (List NetRef) :=
  (List.range w).foldl (fun slots i => (deriveTurn slots i).map reduceSlot) startSlots

/-- The network of width `W` with no reduction (R103: "or never"). -/
def rawNetwork (w : Nat) : List (List NetRef) := (List.range w).foldl deriveTurn startSlots

/-- The value of an identifier: bit `j` of the state or bit `i` of the data. -/
def refValue (s : Crc) (d : List Bool) : NetRef → Bool
  | .state j => s.getLsbD j
  | .data i => d.getD i false

/-- `next[j]`, the XOR of the bits named in a slot (R102). -/
def slotValue (s : Crc) (d : List Bool) (slot : List NetRef) : Bool :=
  slot.foldr (fun r acc => refValue s d r ^^ acc) false

end Sys2Proof.Machine
end

