-- ==== Sys2Proof/Machine/EngineTables.lean ====
section
/-! DEFINITION. The spec's tables of the engine: the equations for W = 8 (spec 40_engine R110) and the column tables for
every width up to 64 (R111), transcribed. "A model may define ENG_W either by rule R100 or by these tables" (R105):
the model's engine is R100's, and that the tables agree is an obligation. -/

namespace Sys2Proof.Machine

/-- One row of R110: the state bits and the data bits whose XOR is the output bit. -/
abbrev EqRow := List Nat × List Nat

/-- R110, output bits 0 to 15. -/
def eqRowsLow : List EqRow := [
   ([24, 30], [1, 7]),
   ([24, 25, 30, 31], [0, 1, 6, 7]),
   ([24, 25, 26, 30, 31], [0, 1, 5, 6, 7]),
   ([25, 26, 27, 31], [0, 4, 5, 6]),
   ([24, 26, 27, 28, 30], [1, 3, 4, 5, 7]),
   ([24, 25, 27, 28, 29, 30, 31], [0, 1, 2, 3, 4, 6, 7]),
   ([25, 26, 28, 29, 30, 31], [0, 1, 2, 3, 5, 6]),
   ([24, 26, 27, 29, 31], [0, 2, 4, 5, 7]),
   ([0, 24, 25, 27, 28], [3, 4, 6, 7]),
   ([1, 25, 26, 28, 29], [2, 3, 5, 6]),
   ([2, 24, 26, 27, 29], [2, 4, 5, 7]),
   ([3, 24, 25, 27, 28], [3, 4, 6, 7]),
   ([4, 24, 25, 26, 28, 29, 30], [1, 2, 3, 5, 6, 7]),
   ([5, 25, 26, 27, 29, 30, 31], [0, 1, 2, 4, 5, 6]),
   ([6, 26, 27, 28, 30, 31], [0, 1, 3, 4, 5]),
   ([7, 27, 28, 29, 31], [0, 2, 3, 4])]

/-- R110, output bits 16 to 31. -/
def eqRowsHigh : List EqRow := [
   ([8, 24, 28, 29], [2, 3, 7]),
   ([9, 25, 29, 30], [1, 2, 6]),
   ([10, 26, 30, 31], [0, 1, 5]),
   ([11, 27, 31], [0, 4]),
   ([12, 28], [3]),
   ([13, 29], [2]),
   ([14, 24], [7]),
   ([15, 24, 25, 30], [1, 6, 7]),
   ([16, 25, 26, 31], [0, 5, 6]),
   ([17, 26, 27], [4, 5]),
   ([18, 24, 27, 28, 30], [1, 3, 4, 7]),
   ([19, 25, 28, 29, 31], [0, 2, 3, 6]),
   ([20, 26, 29, 30], [1, 2, 5]),
   ([21, 27, 30, 31], [0, 1, 4]),
   ([22, 28, 31], [0, 3]),
   ([23, 29], [2])]

/-- The table of R110, output bit 0 first. -/
def eqRows : List EqRow := eqRowsLow ++ eqRowsHigh

/-- An output bit by its row of R110. -/
def eqRowValue (s : Crc) (d : List Bool) (r : EqRow) : Bool :=
  (r.1.foldr (fun j acc => s.getLsbD j ^^ acc) false) ^^ (r.2.foldr (fun i acc => d.getD i false ^^ acc) false)

/-- `SCOL_8` (R111). -/
def scol8 : List Crc :=
  [0x00000100#32, 0x00000200#32, 0x00000400#32, 0x00000800#32, 0x00001000#32, 0x00002000#32, 0x00004000#32, 0x00008000#32] ++
  [0x00010000#32, 0x00020000#32, 0x00040000#32, 0x00080000#32, 0x00100000#32, 0x00200000#32, 0x00400000#32, 0x00800000#32] ++
  [0x01000000#32, 0x02000000#32, 0x04000000#32, 0x08000000#32, 0x10000000#32, 0x20000000#32, 0x40000000#32, 0x80000000#32] ++
  [0x04C11DB7#32, 0x09823B6E#32, 0x130476DC#32, 0x2608EDB8#32, 0x4C11DB70#32, 0x9823B6E0#32, 0x34867077#32, 0x690CE0EE#32]

/-- `DCOL_8` (R111). -/
def dcol8 : List Crc :=
  [0x690CE0EE#32, 0x34867077#32, 0x9823B6E0#32, 0x4C11DB70#32, 0x2608EDB8#32, 0x130476DC#32, 0x09823B6E#32, 0x04C11DB7#32]

/-- `SCOL_16` (R111). -/
def scol16 : List Crc :=
  [0x00010000#32, 0x00020000#32, 0x00040000#32, 0x00080000#32, 0x00100000#32, 0x00200000#32, 0x00400000#32, 0x00800000#32] ++
  [0x01000000#32, 0x02000000#32, 0x04000000#32, 0x08000000#32, 0x10000000#32, 0x20000000#32, 0x40000000#32, 0x80000000#32] ++
  [0x04C11DB7#32, 0x09823B6E#32, 0x130476DC#32, 0x2608EDB8#32, 0x4C11DB70#32, 0x9823B6E0#32, 0x34867077#32, 0x690CE0EE#32] ++
  [0xD219C1DC#32, 0xA0F29E0F#32, 0x452421A9#32, 0x8A484352#32, 0x10519B13#32, 0x20A33626#32, 0x41466C4C#32, 0x828CD898#32]

/-- `DCOL_16` (R111). -/
def dcol16 : List Crc :=
  [0x828CD898#32, 0x41466C4C#32, 0x20A33626#32, 0x10519B13#32, 0x8A484352#32, 0x452421A9#32, 0xA0F29E0F#32, 0xD219C1DC#32] ++
  [0x690CE0EE#32, 0x34867077#32, 0x9823B6E0#32, 0x4C11DB70#32, 0x2608EDB8#32, 0x130476DC#32, 0x09823B6E#32, 0x04C11DB7#32]

/-- `SCOL_24` (R111). -/
def scol24 : List Crc :=
  [0x01000000#32, 0x02000000#32, 0x04000000#32, 0x08000000#32, 0x10000000#32, 0x20000000#32, 0x40000000#32, 0x80000000#32] ++
  [0x04C11DB7#32, 0x09823B6E#32, 0x130476DC#32, 0x2608EDB8#32, 0x4C11DB70#32, 0x9823B6E0#32, 0x34867077#32, 0x690CE0EE#32] ++
  [0xD219C1DC#32, 0xA0F29E0F#32, 0x452421A9#32, 0x8A484352#32, 0x10519B13#32, 0x20A33626#32, 0x41466C4C#32, 0x828CD898#32] ++
  [0x01D8AC87#32, 0x03B1590E#32, 0x0762B21C#32, 0x0EC56438#32, 0x1D8AC870#32, 0x3B1590E0#32, 0x762B21C0#32, 0xEC564380#32]

/-- `DCOL_24` (R111). -/
def dcol24 : List Crc :=
  [0xEC564380#32, 0x762B21C0#32, 0x3B1590E0#32, 0x1D8AC870#32, 0x0EC56438#32, 0x0762B21C#32, 0x03B1590E#32, 0x01D8AC87#32] ++
  [0x828CD898#32, 0x41466C4C#32, 0x20A33626#32, 0x10519B13#32, 0x8A484352#32, 0x452421A9#32, 0xA0F29E0F#32, 0xD219C1DC#32] ++
  [0x690CE0EE#32, 0x34867077#32, 0x9823B6E0#32, 0x4C11DB70#32, 0x2608EDB8#32, 0x130476DC#32, 0x09823B6E#32, 0x04C11DB7#32]

/-- `SCOL_32` (R111). -/
def scol32 : List Crc :=
  [0x04C11DB7#32, 0x09823B6E#32, 0x130476DC#32, 0x2608EDB8#32, 0x4C11DB70#32, 0x9823B6E0#32, 0x34867077#32, 0x690CE0EE#32] ++
  [0xD219C1DC#32, 0xA0F29E0F#32, 0x452421A9#32, 0x8A484352#32, 0x10519B13#32, 0x20A33626#32, 0x41466C4C#32, 0x828CD898#32] ++
  [0x01D8AC87#32, 0x03B1590E#32, 0x0762B21C#32, 0x0EC56438#32, 0x1D8AC870#32, 0x3B1590E0#32, 0x762B21C0#32, 0xEC564380#32] ++
  [0xDC6D9AB7#32, 0xBC1A28D9#32, 0x7CF54C05#32, 0xF9EA980A#32, 0xF7142DA3#32, 0xEAE946F1#32, 0xD1139055#32, 0xA6E63D1D#32]

/-- `DCOL_32` (R111). -/
def dcol32 : List Crc :=
  [0xA6E63D1D#32, 0xD1139055#32, 0xEAE946F1#32, 0xF7142DA3#32, 0xF9EA980A#32, 0x7CF54C05#32, 0xBC1A28D9#32, 0xDC6D9AB7#32] ++
  [0xEC564380#32, 0x762B21C0#32, 0x3B1590E0#32, 0x1D8AC870#32, 0x0EC56438#32, 0x0762B21C#32, 0x03B1590E#32, 0x01D8AC87#32] ++
  [0x828CD898#32, 0x41466C4C#32, 0x20A33626#32, 0x10519B13#32, 0x8A484352#32, 0x452421A9#32, 0xA0F29E0F#32, 0xD219C1DC#32] ++
  [0x690CE0EE#32, 0x34867077#32, 0x9823B6E0#32, 0x4C11DB70#32, 0x2608EDB8#32, 0x130476DC#32, 0x09823B6E#32, 0x04C11DB7#32]

/-- `SCOL_40` (R111). -/
def scol40 : List Crc :=
  [0xD219C1DC#32, 0xA0F29E0F#32, 0x452421A9#32, 0x8A484352#32, 0x10519B13#32, 0x20A33626#32, 0x41466C4C#32, 0x828CD898#32] ++
  [0x01D8AC87#32, 0x03B1590E#32, 0x0762B21C#32, 0x0EC56438#32, 0x1D8AC870#32, 0x3B1590E0#32, 0x762B21C0#32, 0xEC564380#32] ++
  [0xDC6D9AB7#32, 0xBC1A28D9#32, 0x7CF54C05#32, 0xF9EA980A#32, 0xF7142DA3#32, 0xEAE946F1#32, 0xD1139055#32, 0xA6E63D1D#32] ++
  [0x490D678D#32, 0x921ACF1A#32, 0x20F48383#32, 0x41E90706#32, 0x83D20E0C#32, 0x036501AF#32, 0x06CA035E#32, 0x0D9406BC#32]

/-- `DCOL_40` (R111). -/
def dcol40 : List Crc :=
  [0x0D9406BC#32, 0x06CA035E#32, 0x036501AF#32, 0x83D20E0C#32, 0x41E90706#32, 0x20F48383#32, 0x921ACF1A#32, 0x490D678D#32] ++
  [0xA6E63D1D#32, 0xD1139055#32, 0xEAE946F1#32, 0xF7142DA3#32, 0xF9EA980A#32, 0x7CF54C05#32, 0xBC1A28D9#32, 0xDC6D9AB7#32] ++
  [0xEC564380#32, 0x762B21C0#32, 0x3B1590E0#32, 0x1D8AC870#32, 0x0EC56438#32, 0x0762B21C#32, 0x03B1590E#32, 0x01D8AC87#32] ++
  [0x828CD898#32, 0x41466C4C#32, 0x20A33626#32, 0x10519B13#32, 0x8A484352#32, 0x452421A9#32, 0xA0F29E0F#32, 0xD219C1DC#32] ++
  [0x690CE0EE#32, 0x34867077#32, 0x9823B6E0#32, 0x4C11DB70#32, 0x2608EDB8#32, 0x130476DC#32, 0x09823B6E#32, 0x04C11DB7#32]

/-- `SCOL_48` (R111). -/
def scol48 : List Crc :=
  [0x01D8AC87#32, 0x03B1590E#32, 0x0762B21C#32, 0x0EC56438#32, 0x1D8AC870#32, 0x3B1590E0#32, 0x762B21C0#32, 0xEC564380#32] ++
  [0xDC6D9AB7#32, 0xBC1A28D9#32, 0x7CF54C05#32, 0xF9EA980A#32, 0xF7142DA3#32, 0xEAE946F1#32, 0xD1139055#32, 0xA6E63D1D#32] ++
  [0x490D678D#32, 0x921ACF1A#32, 0x20F48383#32, 0x41E90706#32, 0x83D20E0C#32, 0x036501AF#32, 0x06CA035E#32, 0x0D9406BC#32] ++
  [0x1B280D78#32, 0x36501AF0#32, 0x6CA035E0#32, 0xD9406BC0#32, 0xB641CA37#32, 0x684289D9#32, 0xD08513B2#32, 0xA5CB3AD3#32]

/-- `DCOL_48` (R111). -/
def dcol48 : List Crc :=
  [0xA5CB3AD3#32, 0xD08513B2#32, 0x684289D9#32, 0xB641CA37#32, 0xD9406BC0#32, 0x6CA035E0#32, 0x36501AF0#32, 0x1B280D78#32] ++
  [0x0D9406BC#32, 0x06CA035E#32, 0x036501AF#32, 0x83D20E0C#32, 0x41E90706#32, 0x20F48383#32, 0x921ACF1A#32, 0x490D678D#32] ++
  [0xA6E63D1D#32, 0xD1139055#32, 0xEAE946F1#32, 0xF7142DA3#32, 0xF9EA980A#32, 0x7CF54C05#32, 0xBC1A28D9#32, 0xDC6D9AB7#32] ++
  [0xEC564380#32, 0x762B21C0#32, 0x3B1590E0#32, 0x1D8AC870#32, 0x0EC56438#32, 0x0762B21C#32, 0x03B1590E#32, 0x01D8AC87#32] ++
  [0x828CD898#32, 0x41466C4C#32, 0x20A33626#32, 0x10519B13#32, 0x8A484352#32, 0x452421A9#32, 0xA0F29E0F#32, 0xD219C1DC#32] ++
  [0x690CE0EE#32, 0x34867077#32, 0x9823B6E0#32, 0x4C11DB70#32, 0x2608EDB8#32, 0x130476DC#32, 0x09823B6E#32, 0x04C11DB7#32]

/-- `SCOL_56` (R111). -/
def scol56 : List Crc :=
  [0xDC6D9AB7#32, 0xBC1A28D9#32, 0x7CF54C05#32, 0xF9EA980A#32, 0xF7142DA3#32, 0xEAE946F1#32, 0xD1139055#32, 0xA6E63D1D#32] ++
  [0x490D678D#32, 0x921ACF1A#32, 0x20F48383#32, 0x41E90706#32, 0x83D20E0C#32, 0x036501AF#32, 0x06CA035E#32, 0x0D9406BC#32] ++
  [0x1B280D78#32, 0x36501AF0#32, 0x6CA035E0#32, 0xD9406BC0#32, 0xB641CA37#32, 0x684289D9#32, 0xD08513B2#32, 0xA5CB3AD3#32] ++
  [0x4F576811#32, 0x9EAED022#32, 0x399CBDF3#32, 0x73397BE6#32, 0xE672F7CC#32, 0xC824F22F#32, 0x9488F9E9#32, 0x2DD0EE65#32]

/-- `DCOL_56` (R111). -/
def dcol56 : List Crc :=
  [0x2DD0EE65#32, 0x9488F9E9#32, 0xC824F22F#32, 0xE672F7CC#32, 0x73397BE6#32, 0x399CBDF3#32, 0x9EAED022#32, 0x4F576811#32] ++
  [0xA5CB3AD3#32, 0xD08513B2#32, 0x684289D9#32, 0xB641CA37#32, 0xD9406BC0#32, 0x6CA035E0#32, 0x36501AF0#32, 0x1B280D78#32] ++
  [0x0D9406BC#32, 0x06CA035E#32, 0x036501AF#32, 0x83D20E0C#32, 0x41E90706#32, 0x20F48383#32, 0x921ACF1A#32, 0x490D678D#32] ++
  [0xA6E63D1D#32, 0xD1139055#32, 0xEAE946F1#32, 0xF7142DA3#32, 0xF9EA980A#32, 0x7CF54C05#32, 0xBC1A28D9#32, 0xDC6D9AB7#32] ++
  [0xEC564380#32, 0x762B21C0#32, 0x3B1590E0#32, 0x1D8AC870#32, 0x0EC56438#32, 0x0762B21C#32, 0x03B1590E#32, 0x01D8AC87#32] ++
  [0x828CD898#32, 0x41466C4C#32, 0x20A33626#32, 0x10519B13#32, 0x8A484352#32, 0x452421A9#32, 0xA0F29E0F#32, 0xD219C1DC#32] ++
  [0x690CE0EE#32, 0x34867077#32, 0x9823B6E0#32, 0x4C11DB70#32, 0x2608EDB8#32, 0x130476DC#32, 0x09823B6E#32, 0x04C11DB7#32]

/-- `SCOL_64` (R111). -/
def scol64 : List Crc :=
  [0x490D678D#32, 0x921ACF1A#32, 0x20F48383#32, 0x41E90706#32, 0x83D20E0C#32, 0x036501AF#32, 0x06CA035E#32, 0x0D9406BC#32] ++
  [0x1B280D78#32, 0x36501AF0#32, 0x6CA035E0#32, 0xD9406BC0#32, 0xB641CA37#32, 0x684289D9#32, 0xD08513B2#32, 0xA5CB3AD3#32] ++
  [0x4F576811#32, 0x9EAED022#32, 0x399CBDF3#32, 0x73397BE6#32, 0xE672F7CC#32, 0xC824F22F#32, 0x9488F9E9#32, 0x2DD0EE65#32] ++
  [0x5BA1DCCA#32, 0xB743B994#32, 0x6A466E9F#32, 0xD48CDD3E#32, 0xADD8A7CB#32, 0x5F705221#32, 0xBEE0A442#32, 0x79005533#32]

/-- `DCOL_64` (R111). -/
def dcol64 : List Crc :=
  [0x79005533#32, 0xBEE0A442#32, 0x5F705221#32, 0xADD8A7CB#32, 0xD48CDD3E#32, 0x6A466E9F#32, 0xB743B994#32, 0x5BA1DCCA#32] ++
  [0x2DD0EE65#32, 0x9488F9E9#32, 0xC824F22F#32, 0xE672F7CC#32, 0x73397BE6#32, 0x399CBDF3#32, 0x9EAED022#32, 0x4F576811#32] ++
  [0xA5CB3AD3#32, 0xD08513B2#32, 0x684289D9#32, 0xB641CA37#32, 0xD9406BC0#32, 0x6CA035E0#32, 0x36501AF0#32, 0x1B280D78#32] ++
  [0x0D9406BC#32, 0x06CA035E#32, 0x036501AF#32, 0x83D20E0C#32, 0x41E90706#32, 0x20F48383#32, 0x921ACF1A#32, 0x490D678D#32] ++
  [0xA6E63D1D#32, 0xD1139055#32, 0xEAE946F1#32, 0xF7142DA3#32, 0xF9EA980A#32, 0x7CF54C05#32, 0xBC1A28D9#32, 0xDC6D9AB7#32] ++
  [0xEC564380#32, 0x762B21C0#32, 0x3B1590E0#32, 0x1D8AC870#32, 0x0EC56438#32, 0x0762B21C#32, 0x03B1590E#32, 0x01D8AC87#32] ++
  [0x828CD898#32, 0x41466C4C#32, 0x20A33626#32, 0x10519B13#32, 0x8A484352#32, 0x452421A9#32, 0xA0F29E0F#32, 0xD219C1DC#32] ++
  [0x690CE0EE#32, 0x34867077#32, 0x9823B6E0#32, 0x4C11DB70#32, 0x2608EDB8#32, 0x130476DC#32, 0x09823B6E#32, 0x04C11DB7#32]

/-- The state columns of the tables of R111 for a data width in bits; none for a width without a table. -/
def scol : Nat → List Crc
  | 8 => scol8
  | 16 => scol16
  | 24 => scol24
  | 32 => scol32
  | 40 => scol40
  | 48 => scol48
  | 56 => scol56
  | 64 => scol64
  | _ => []

/-- The data columns of the tables of R111 for a data width in bits; none for a width without a table. -/
def dcol : Nat → List Crc
  | 8 => dcol8
  | 16 => dcol16
  | 24 => dcol24
  | 32 => dcol32
  | 40 => dcol40
  | 48 => dcol48
  | 56 => dcol56
  | 64 => dcol64
  | _ => []

/-- The XOR of the columns whose bit is set (R105). -/
def xorColumns : List Crc → List Bool → Crc
  | c :: cs, b :: bs => (if b then c else 0#32) ^^^ xorColumns cs bs
  | _, _ => 0#32

/-- The bits of a state, bit 0 first. -/
def crcBits (s : Crc) : List Bool := (List.range 32).map s.getLsbD

/-- The engine by the column tables (R105, R111). -/
def tableEngine (s : Crc) (d : List Bool) : Crc :=
  xorColumns (scol d.length) (crcBits s) ^^^ xorColumns (dcol d.length) d

end Sys2Proof.Machine
end

