-- ==== Sys2Proof/Machine/Stimulus.lean ====
section
/-! DEFINITION. The spec's stimulus notation (spec 30_encoding R84, R85): packets as elements, a stream of ready bits,
loading the inputs of the coming cycles, playing a program for one pipeline; and the transfers of a cycle (00_scope R14,
20_memory R51). -/

namespace Sys2Proof.Machine

/-- `PACKET b0 b1 ... b(n-1)`: element `m` of `ceil(n/DWB)`, bytes in lanes 0 upward, unused lanes 0; only the final
element has `l = 1` and `be = 1 << ((n-1) mod DWB)` (R85). -/
def packetElement (dwb : Nat) (bytes : Lanes) (m : Nat) : Element :=
  let here := (bytes.drop (dwb * m)).take dwb
  let final := decide (bytes.length ≤ dwb * (m + 1))
  { data := here ++ List.replicate (dwb - here.length) 0#8
    last := final
    lastBe := if final then oneHot dwb ((bytes.length - 1) % dwb) else noLanes dwb
    error := false }

/-- The elements of a `PACKET` (R85). -/
def packet (dwb : Nat) (bytes : Lanes) : List Element :=
  (List.range ((bytes.length + dwb - 1) / dwb)).map (packetElement dwb bytes)

/-- The inputs of the coming cycles, loaded from outside: the first for the next step, the rest as the script. -/
def State.load (s : State) (xs : List Inputs) : State :=
  match xs with
  | [] => s
  | x :: rest => { s with inputs := x, script := rest }

/-- What goes in at a pipeline's sink in a cycle (R14, R51): an offered element the component is ready for. -/
def sinkXfer (x : StreamIn) (o : StreamOut) : Option Element := if x.sinkValid && o.sinkReady then some x.sink else none

/-- What comes out at a pipeline's source in a cycle (R14, R51). -/
def sourceXfer (x : StreamIn) (o : StreamOut) : Option Element := if o.sourceValid && x.sourceReady then some o.source else none

/-- The Inserter's sink transfer in a cycle with these inputs and outputs; none in another component's cycle. -/
def insAccepts (x : Inputs) : CycleOut → Option Element
  | .inserter o => sinkXfer x.ins o
  | _ => none

/-- The Inserter's source transfer. -/
def insEmits (x : Inputs) : CycleOut → Option Element
  | .inserter o => sourceXfer x.ins o
  | _ => none

/-- The Checker's sink transfer. -/
def chkAccepts (x : Inputs) : CycleOut → Option Element
  | .checker o _ => sinkXfer x.chk o
  | _ => none

/-- The Checker's source transfer. -/
def chkEmits (x : Inputs) : CycleOut → Option Element
  | .checker o _ => sourceXfer x.chk o
  | _ => none

/-- The Checker's `error_pulse` in a cycle; low in another component's cycle (R205). -/
def pulses : CycleOut → Bool
  | .checker _ p => p
  | _ => false

/-- `SINK d=.. l=.. be=.. e=..` or `SINK -`, with `RDY` (R84). The signals of `SINK -` are zeros here; they are the
environment's to choose (R66). -/
def sinkLine (dwb : Nat) (e : Option Element) (ready : Bool) : StreamIn :=
  match e with
  | some e => ⟨true, e, ready⟩
  | none => ⟨false, zeroElement dwb, ready⟩

/-- `READY <bits>`: the bit of this cycle and the bits left; "its last bit repeats" (R85). -/
def readyBit : List Bool → Bool × List Bool
  | [] => (false, [])
  | [b] => (b, [b])
  | b :: rest => (b, rest)

/-- One line of a program's listing (R84). -/
structure ListingLine where
  word : DecodeWord
  op : Option Instr
  accepted : Option Element
  emitted : Option Element
  pulse : Bool
  deriving DecidableEq, Repr

/-- Play a program on the Inserter for `n` cycles: the upstream offers each element until it is accepted (R85). -/
def playInserter : Nat → List Element → List Bool → State → List ListingLine
  | 0, _, _, _ => []
  | n + 1, up, ready, s =>
    let x : Inputs := { s.inputs with sel := .inserter, ins := sinkLine s.params.insDwb up.head? (readyBit ready).1 }
    let s1 := { s with inputs := x, script := [] }
    match step s1 with
    | .next t =>
      ⟨cycleWord s1, decode (cycleWord s1), insAccepts x t.out, insEmits x t.out, false⟩ ::
        playInserter n (if (insAccepts x t.out).isSome then up.tail else up) (readyBit ready).2 t
    | .fault _ => []
    | .refused _ => []

/-- Play a program on the Checker for `n` cycles (R85). -/
def playChecker : Nat → List Element → List Bool → State → List ListingLine
  | 0, _, _, _ => []
  | n + 1, up, ready, s =>
    let x : Inputs := { s.inputs with sel := .checker, chk := sinkLine s.params.chkDwb up.head? (readyBit ready).1 }
    let s1 := { s with inputs := x, script := [] }
    match step s1 with
    | .next t =>
      ⟨cycleWord s1, decode (cycleWord s1), chkAccepts x t.out, chkEmits x t.out, pulses t.out⟩ ::
        playChecker n (if (chkAccepts x t.out).isSome then up.tail else up) (readyBit ready).2 t
    | .fault _ => []
    | .refused _ => []

end Sys2Proof.Machine
end

