-- ==== Sys2Proof/Machine/Chain.lean ====
section
/-! DEFINITION. An Inserter whose source drives a Checker's sink, clocked together: "valid flows forward and ready flows
backward, each in one pass" (spec 70_reset_and_hazards R224). One chained cycle is the Inserter's cycle and the
Checker's cycle, which share no state (60_exceptions R210). -/

namespace Sys2Proof.Machine

/-- The port outputs the Inserter would show in this cycle. -/
def insPort (s : State) : Option StreamOut :=
  match step { s with inputs := { s.inputs with sel := .inserter } } with
  | .next t => match t.out with
    | .inserter o => some o
    | _ => none
  | .fault _ => none
  | .refused _ => none

/-- The port outputs the Checker would show in this cycle. -/
def chkPort (s : State) : Option StreamOut :=
  match step { s with inputs := { s.inputs with sel := .checker } } with
  | .next t => match t.out with
    | .checker o _ => some o
    | _ => none
  | .fault _ => none
  | .refused _ => none

/-- The inputs of a chained cycle: the upstream's element at the Inserter, the Inserter's source at the Checker's sink,
the downstream's ready at the Checker, and the Checker's `sink.ready` back at the Inserter. The forward pass needs no
ready (R224), so the Inserter is asked for it with none. -/
def chainInputs (s : State) (valid : Bool) (e : Element) (ready : Bool) : Option Inputs :=
  match insPort { s with inputs := { s.inputs with ins := ⟨valid, e, false⟩ } } with
  | none => none
  | some o =>
    match chkPort { s with inputs := { s.inputs with chk := ⟨o.sourceValid, o.source, ready⟩ } } with
    | none => none
    | some q => some { s.inputs with ins := ⟨valid, e, q.sinkReady⟩, chk := ⟨o.sourceValid, o.source, ready⟩ }

/-- A chained cycle: the state after it, and the two components' outputs in it. -/
def chainCycle (s : State) (valid : Bool) (e : Element) (ready : Bool) : Option (State × Inputs × CycleOut × CycleOut) :=
  match chainInputs s valid e ready with
  | none => none
  | some x =>
    match step { s with inputs := { x with sel := .inserter }, script := [{ x with sel := .checker }] } with
    | .next t => match step t with
      | .next u => some (u, x, t.out, u.out)
      | .fault _ => none
      | .refused _ => none
    | .fault _ => none
    | .refused _ => none

end Sys2Proof.Machine
end

