-- ==== Sys2Proof/Safety.lean ====
section
/-! DEFINITION. The terms claims use: a run and what crosses the ports in it, the invariant of the machine, and the
spec's packet contracts as functions of the accepted elements. -/

namespace Sys2Proof.Safety

open Sys2Proof.Machine

/-- The cycles of a run: the inputs and the outputs of each. -/
abbrev Trace := List (Inputs × CycleOut)

/-- `n` steps from a state: their trace and the state after them; none if a step stops. -/
def run : Nat → State → Option (Trace × State)
  | 0, s => some ([], s)
  | n + 1, s =>
    match step s with
    | .next t => match run n t with
      | some (tr, u) => some ((s.inputs, t.out) :: tr, u)
      | none => none
    | .fault _ => none
    | .refused _ => none

/-- The elements the Inserter accepted in a trace, in order. -/
def insAccepted (tr : Trace) : List Element := tr.filterMap (fun x => insAccepts x.1 x.2)

/-- The elements the Inserter emitted in a trace, in order. -/
def insEmitted (tr : Trace) : List Element := tr.filterMap (fun x => insEmits x.1 x.2)

/-- The elements the Checker accepted in a trace, in order. -/
def chkAccepted (tr : Trace) : List Element := tr.filterMap (fun x => chkAccepts x.1 x.2)

/-- The elements the Checker emitted in a trace, in order. -/
def chkEmitted (tr : Trace) : List Element := tr.filterMap (fun x => chkEmits x.1 x.2)

/-- The cycles with `error_pulse = 1` in a trace. -/
def pulseCount (tr : Trace) : Nat := tr.countP (fun x => pulses x.2)

/-- The Inserter's part of the invariant (R22, R25, R26): its widths, `cnt` in `0..RATIO-1`, and `cnt = 0` outside
APPEND. -/
def InsInv (dwb : Nat) (i : Inserter) : Prop :=
  i.crc.length = dwb ∧ i.lbe.length = dwb ∧ i.cnt < Config.ratio dwb ∧ (i.st ≠ .append → i.cnt = 0)

/-- The Checker's part of the invariant (R22, R29, R31): its widths, and the occupancy of the buffer in each state: none
in IDLE, 1 to RATIO in ACTIVE, at most the capacity in RESET, where R29 leaves it unspecified after reset. -/
def ChkInv (dwb : Nat) (c : Checker) : Prop :=
  c.crc.length = dwb ∧ (∀ e ∈ c.buf, e.wf dwb) ∧ c.buf.length ≤ Config.cap dwb ∧
    (c.st ≠ .reset → c.buf.length ≤ Config.ratio dwb) ∧ (c.st = .idle → c.buf = []) ∧ (c.st = .active → 1 ≤ c.buf.length)

/-- The invariant of the machine. -/
def StateInv (s : State) : Prop :=
  s.unit.length = s.params.unitDwb ∧ InsInv s.params.insDwb s.ins ∧ ChkInv s.params.chkDwb s.chk

/-- The unit's operations have their effect: the width is admitted, and the inputs are values of the ports. -/
def UnitReady (s : State) : Prop := unitAdmitted s.params.unitDwb ∧ s.inputs.unit.wf s.params.unitDwb

/-- The Inserter's operations have their effect. -/
def InsReady (s : State) : Prop := pipelineAdmitted s.params.insDwb ∧ s.inputs.ins.wf s.params.insDwb

/-- The Checker's operations have their effect. -/
def ChkReady (s : State) : Prop := pipelineAdmitted s.params.chkDwb ∧ s.inputs.chk.wf s.params.chkDwb

/-- A cycle of the standalone unit whose operations have their effect, with the given controls (R72). -/
def UnitCycle (s : State) (reset enable : Bool) : Prop :=
  UnitReady s ∧ s.inputs.sel = .unit ∧ s.inputs.unit.reset = reset ∧ s.inputs.unit.enable = enable

/-- A cycle of the Inserter in the given state, whose operations have their effect. -/
def InsCycle (s : State) (st : InsState) : Prop := InsReady s ∧ s.inputs.sel = .inserter ∧ s.ins.st = st

/-- A cycle of the Checker outside RESET, whose operations have their effect. -/
def ChkCycle (s : State) : Prop := ChkReady s ∧ s.inputs.sel = .checker ∧ s.chk.st ≠ .reset

/-- A reset state of an instance (R35, R220): any latch and any staging buffer of the port's widths, and any inputs. -/
def IsReset (s : State) : Prop :=
  ∃ p lbe buf xs, p.wf ∧ lbe.length = p.insDwb ∧ buf.length ≤ Config.cap p.chkDwb ∧ (∀ e ∈ buf, e.wf p.chkDwb) ∧
    s = (State.resetOf p lbe buf).load xs

/-- The register after folding bytes through the engine from a start value (R109). -/
def fold (s : Crc) (bytes : Lanes) : Crc := engine s (laneBits bytes)

/-- Every lane's next state from the widest lane's register `top`: lane `k` folds lanes `0..k` of the data (R121). -/
def foldLanes (dwb : Nat) (top : Crc) (d : Lanes) : List Crc := (List.range dwb).map (fun k => fold top (d.take (k + 1)))

/-- The CRC of a byte sequence: fold from INIT, then `~rev32` (R109). -/
def byteCrc (bytes : Lanes) : Crc := crcOutput (fold Config.init bytes)

/-- The four bytes of a CRC value in stream order, least significant first (R56). -/
def trailerBytes (v : Crc) : Lanes := (List.range 4).map (crcByte v)

/-- The bytes of elements, every lane, in stream order (R54). -/
def allBytes (es : List Element) : Lanes := es.flatMap (·.data)

/-- The valid bytes of a packet `body ++ [fin]` whose final mask selects lane `k`: every lane of the body, and lanes
`0..k` of the final element (R58). -/
def validBytes (body : List Element) (fin : Element) (k : Nat) : Lanes := allBytes body ++ fin.data.take (k + 1)

/-- The RATIO trailer elements with the given data (R151): `last` and the top lane on the final one alone, and no error.
`last_be` and `error` are the spec's choice (D14, log 15). -/
def trailer (dwb : Nat) (d : Nat → Lanes) : List Element :=
  (List.range (Config.ratio dwb)).map fun i =>
    ⟨d i, i + 1 == Config.ratio dwb,
      if i + 1 == Config.ratio dwb then oneHot dwb (dwb - 1) else noLanes dwb, false⟩

/-- The inputs that offer an element to the Inserter, downstream ready. -/
def offerIns (x : Inputs) (e : Element) : Inputs := { x with sel := .inserter, ins := ⟨true, e, true⟩ }

/-- The inputs that offer an element to the Checker, downstream ready. -/
def offerChk (x : Inputs) (e : Element) : Inputs := { x with sel := .checker, chk := ⟨true, e, true⟩ }

/-- An element with its error bit cleared. -/
def clearElement (e : Element) : Element := { e with error := false }

/-- Inputs with the error bits of the offered elements cleared. -/
def clearInputs (x : Inputs) : Inputs :=
  { x with ins := { x.ins with sink := clearElement x.ins.sink }, chk := { x.chk with sink := clearElement x.chk.sink } }

/-- Outputs with `source.error` cleared, and with nothing else changed. -/
def clearOut : CycleOut → CycleOut
  | .inserter o => .inserter { o with source := clearElement o.source }
  | .checker o p => .checker { o with source := clearElement o.source } p
  | .none => .none
  | .engine next => .engine next
  | .unitValue v => .unitValue v
  | .unitError e => .unitError e
  | .unit v e => .unit v e

/-- A state with every error bit that an element carries in it cleared, and with nothing else changed (R202, R204). -/
def clearErrors (s : State) : State :=
  { s with chk := { s.chk with buf := s.chk.buf.map clearElement }, inputs := clearInputs s.inputs,
           script := s.script.map clearInputs, out := clearOut s.out }

/-- The handshake outputs of a pipeline's cycle: `sink.ready` and `source.valid`. -/
def handshake : CycleOut → Option (Bool × Bool)
  | .inserter o => some (o.sinkReady, o.sourceValid)
  | .checker o _ => some (o.sinkReady, o.sourceValid)
  | _ => none

/-- What the Inserter emits for a packet of accepted elements `es`, with the given data in the trailer (R153). -/
def insPacket (dwb : Nat) (es : List Element) (d : Nat → Lanes) : List Element :=
  es.map (fun e => { e with last := false }) ++ trailer dwb d

/-- The residue test of a packet of accepted elements (R174, R185): the register after folding every element, the last
one's lanes `0..k`, differs from the residue. -/
def packetCrcErr (body : List Element) (fin : Element) (k : Nat) : Bool :=
  fold Config.init (validBytes body fin k) != Config.residue

/-- What the Checker emits for a packet of accepted elements `es` with the given residue verdict (R185): nothing for at
most RATIO of them; else all but the last RATIO, the final one with `last = 1` and the OR of R173. -/
def chkPacket (dwb : Nat) (es : List Element) (crcErr : Bool) : List Element :=
  match (es.take (es.length - Config.ratio dwb)).getLast? with
  | none => []
  | some e =>
    (es.take (es.length - Config.ratio dwb - 1)).map (fun e => { e with last := false }) ++
      [⟨e.data, true, e.lastBe,
        (es.drop (es.length - Config.ratio dwb - 1)).any (·.error) || crcErr⟩]

/-- The second state is the first but for the parts no operation reads before it writes them (R26, R29): the latch
outside APPEND, and the staging buffer in RESET. -/
def AlikeButUnread (s s' : State) : Prop :=
  ∃ lbe buf, s' = { s with ins := { s.ins with lbe := lbe }, chk := { s.chk with buf := buf } } ∧
    (s.ins.st = .append → lbe = s.ins.lbe) ∧ (s.chk.st ≠ .reset → buf = s.chk.buf)

end Sys2Proof.Safety
end

