-- ==== Sys2Proof/Certificates/Slice0/Obligations.lean ====
section
/-! DEFINITION. The statements for the provers. A state's hypotheses name the cycle (which component is clocked, its
state and its handshake) and say that the inputs are values of the ports; a register is read by position, so that a
statement never rests on a register the bank does not have. -/

open Sys2Proof Sys2Proof.Machine Sys2Proof.Safety

/-! ## The engine (40_engine) -/

/-- R101: one step of the recurrence, bit by bit. The shift direction is the spec's correction (C2, log 15). -/
def Obligations.CrcStepBitByBit : Prop :=
  ∀ (s : Crc) (b : Bool),
    (crcStep s b).getLsbD 0 = (s.getLsbD 31 ^^ b) ∧
    ∀ j, j < 31 → (crcStep s b).getLsbD (j + 1) =
      (s.getLsbD j ^^ ((s.getLsbD 31 ^^ b) && (0x04C11DB7#32).getLsbD (j + 1)))

/-- R100: ENG_NEXT folds the data bits low to high, and nothing but the output changes; it maps a zero state and zero
data to zero. `W` is the length of the data word (the model's choice, log 22). -/
def Obligations.EngNextFoldsDataBits : Prop :=
  (∀ s : State, 1 ≤ s.inputs.engine.data.length →
    exec .engNext s = .next { s with out := .engine (s.inputs.engine.data.foldl crcStep s.inputs.engine.state) }) ∧
  (∀ w : Nat, engine 0#32 (List.replicate w false) = 0#32)

/-- R105: the engine is the XOR of its columns: the state's and the data's set bits. -/
def Obligations.EngineIsXorOfColumns : Prop :=
  ∀ (s : Crc) (d : List Bool),
    engine s d =
      xorColumns ((List.range 32).map fun j => engine (1#32 <<< j) (List.replicate d.length false)) (crcBits s) ^^^
      xorColumns ((List.range d.length).map fun i => engine 0#32 ((List.range d.length).map (· == i))) d

/-- R106: folding a word is folding its low part, then its high part; folding lanes is folding their bytes in order,
lane 0 first. -/
def Obligations.EngineComposes : Prop :=
  (∀ (s : Crc) (d1 d2 : List Bool), engine s (d1 ++ d2) = engine (engine s d1) d2) ∧
  (∀ (s : Crc) (d : Lanes), engine s (laneBits d) = d.foldl (fun r b => engine r (byteBits b)) s)

/-- R111: the column tables of every width up to 64 give the engine. -/
def Obligations.ColumnTablesGiveEngine : Prop :=
  ∀ (s : Crc) (d : List Bool), d.length ∈ [8, 16, 24, 32, 40, 48, 56, 64] → tableEngine s d = engine s d

/-- R110: the table of equations for W = 8 gives every output bit. -/
def Obligations.EquationsForEightBits : Prop :=
  ∀ (s : Crc) (d : List Bool), d.length = 8 → eqRows.map (eqRowValue s d) = crcBits (engine s d)

/-- R102, R103: the derived network computes the engine at every width, reduced after every turn, once at the end, or
never; and in one reduced after every turn no identifier is named twice. -/
def Obligations.DerivedNetworkComputesEngine : Prop :=
  ∀ (s : Crc) (d : List Bool),
    (network d.length).map (slotValue s d) = crcBits (engine s d) ∧
    ((rawNetwork d.length).map reduceSlot).map (slotValue s d) = crcBits (engine s d) ∧
    (rawNetwork d.length).map (slotValue s d) = crcBits (engine s d) ∧
    ∀ slot ∈ network d.length, slot.Nodup

/-- R109, 95_test_vectors 2.2: the CRC of the spec's byte sequences. The values rest on the shift direction (C2); the
third is what the trailer order that the spec corrects (C1) would leave; log 15. -/
def Obligations.ReferenceCrcValues : Prop :=
  byteCrc [0x01#8, 0x02#8, 0x03#8, 0x04#8] = 0xB63CFBCD#32 ∧
  byteCrc [0x31#8, 0x32#8, 0x33#8, 0x34#8, 0x35#8, 0x36#8, 0x37#8, 0x38#8, 0x39#8] = 0xCBF43926#32 ∧
  fold Config.init [0x01#8, 0x02#8, 0x03#8, 0x04#8, 0xB6#8, 0x3C#8, 0xFB#8, 0xCD#8] = 0x617690AD#32

/-! ## The CRC32Unit (41_crc32unit) -/

/-- R126: the lane selector, on every mask of the unit's width. -/
def Obligations.LaneSelector : Prop :=
  ∀ (dwb : Nat) (m : LaneMask), 1 ≤ dwb → m.length = dwb →
    (m.count true = 0 → laneSel dwb m = some (dwb - 1)) ∧
    (∀ k, k < dwb → m = oneHot dwb k → laneSel dwb m = some k) ∧
    (2 ≤ m.count true → laneSel dwb m = none)

/-- R121: the next state of every lane starts from the widest lane's register, whatever the lane, and folds lanes
`0..k` of the cycle's data. -/
def Obligations.LaneNextStartsFromWidestLane : Prop :=
  ∀ (dwb : Nat) (crc : List Crc) (d : Lanes) (top : Crc), crc[dwb - 1]? = some top →
    ∀ k, k < dwb → laneNext dwb crc d k = engine top (laneBits (d.take (k + 1)))

/-- R122, R125: with `reset` every lane goes to INIT; the ports of the same cycle show the old registers; and after it
every selected lane's output form is 0. That this holds whatever `enable` is, `reset` winning over it, is the spec's
choice (D22), and so is `error` on the next state (C4); log 15. -/
def Obligations.UnitResetResult : Prop :=
  (∀ (s : State) (enable : Bool), UnitCycle s true enable →
    decode (cycleWord s) = some .unitReset ∧
    ∃ v e, exec .unitReset s =
        .next { s with unit := List.replicate s.params.unitDwb 0xFFFFFFFF#32, out := .unit v e } ∧
      ∀ k, laneSel s.params.unitDwb s.inputs.unit.lastBe = some k →
        (∀ r, s.unit[k]? = some r → v = crcOutput r) ∧
        (∀ top, s.unit[s.params.unitDwb - 1]? = some top →
          e = (fold top (s.inputs.unit.data.take (k + 1)) != 0xC704DD7B#32))) ∧
  (∀ (dwb k draw : Nat) (be : LaneMask), be.length = dwb → 1 ≤ dwb → laneSel dwb be = some k →
    unitValuePort dwb (List.replicate dwb 0xFFFFFFFF#32) be draw = 0#32)

/-- R123, R13, R127, R128: with `enable` and no `reset`, every lane goes to its next state, all from the widest lane's
register and the cycle's data; `last_be` does not matter to that. The ports of the same cycle show the old registers:
`value` the selected one's output form, `error` the residue test with the cycle's data folded in. That `error` is on the
next state is the spec's choice (C4, log 15). -/
def Obligations.UnitUpdateResult : Prop :=
  ∀ (s : State) (top : Crc), UnitCycle s false true → s.unit[s.params.unitDwb - 1]? = some top →
    decode (cycleWord s) = some .unitUpdate ∧
    ∃ v e, exec .unitUpdate s =
        .next { s with unit := foldLanes s.params.unitDwb top s.inputs.unit.data, out := .unit v e } ∧
      ∀ k, laneSel s.params.unitDwb s.inputs.unit.lastBe = some k →
        (∀ r, s.unit[k]? = some r → v = crcOutput r) ∧
        e = (fold top (s.inputs.unit.data.take (k + 1)) != 0xC704DD7B#32)

/-- R124: with neither control no register changes, and both ports are still evaluated, `error` on the cycle's data.
That `error` is on the next state is the spec's choice (C4, log 15). -/
def Obligations.UnitHoldResult : Prop :=
  ∀ s : State, UnitCycle s false false →
    decode (cycleWord s) = some .unitHold ∧
    ∃ v e, exec .unitHold s = .next { s with out := .unit v e } ∧
      ∀ k, laneSel s.params.unitDwb s.inputs.unit.lastBe = some k →
        (∀ r, s.unit[k]? = some r → v = crcOutput r) ∧
        (∀ top, s.unit[s.params.unitDwb - 1]? = some top →
          e = (fold top (s.inputs.unit.data.take (k + 1)) != 0xC704DD7B#32))

/-- R127, R129: UNIT_VALUE puts out the bit-reversed complement of the selected register; with no selected lane it puts
out some value; nothing else changes. That a mask of two bits or more gives a free value is the spec's choice (D20, log
15). -/
def Obligations.UnitValueResult : Prop :=
  ∀ s : State, UnitReady s →
    ∃ v, exec .unitValue s = .next { s with out := .unitValue v } ∧
      ∀ k r, laneSel s.params.unitDwb s.inputs.unit.lastBe = some k → s.unit[k]? = some r →
        ∀ i, i < 32 → v.getLsbD i = !(r.getLsbD (31 - i))

/-- R128, R129: UNIT_ERROR compares the selected lane's next state, the cycle's data folded in, with the residue; with
no selected lane it puts out some bit; nothing else changes. The next state (C4), and a free bit for a mask of two bits
or more (D20), are the spec's choices (log 15). -/
def Obligations.UnitErrorResult : Prop :=
  ∀ s : State, UnitReady s →
    ∃ e, exec .unitError s = .next { s with out := .unitError e } ∧
      ∀ k top, laneSel s.params.unitDwb s.inputs.unit.lastBe = some k →
        s.unit[s.params.unitDwb - 1]? = some top →
        (e = false ↔ engine top (laneBits (s.inputs.unit.data.take (k + 1))) = 0xC704DD7B#32)

/-- R130: after a reset and updates with words `ws` and then `w`, lane `k` holds the register of every byte of `ws` and
lanes `0..k` of `w`, and its output form is the CRC of those bytes. -/
def Obligations.BankHoldsPartialWordCrcs : Prop :=
  ∀ (dwb k : Nat) (ws : List Lanes) (w : Lanes), k < dwb → (∀ x ∈ ws, x.length = dwb) → w.length = dwb →
    laneReg ((ws ++ [w]).foldl (bankUpdate dwb) (bankReset dwb)) k = fold Config.init (ws.flatten ++ w.take (k + 1)) ∧
    ∀ draw, unitValuePort dwb ((ws ++ [w]).foldl (bankUpdate dwb) (bankReset dwb)) (oneHot dwb k) draw =
      byteCrc (ws.flatten ++ w.take (k + 1))

/-- R131 and its converse, the ground of R227: a packet's bytes followed by four trailer bytes leave the register at the
residue exactly when the trailer is the packet's CRC. Two corrections of the spec are in it: the trailer goes least
significant byte first (C1), and the packet's bytes come before it (C5); log 15. -/
def Obligations.ResidueExactlyForCorrectTrailer : Prop :=
  ∀ (bytes : Lanes) (v : Crc),
    fold Config.init (bytes ++ trailerBytes v) = 0xC704DD7B#32 ↔ v = byteCrc bytes

/-- R229: flipping one bit of a folded stream always changes the register, so a stream that left the residue does not
leave it after the flip. -/
def Obligations.SingleBitFlipDetected : Prop :=
  ∀ (s : Crc) (before after : List Bool) (b : Bool),
    engine s (before ++ (!b) :: after) ≠ engine s (before ++ b :: after)

/-! ## The Inserter (42_inserter) -/

/-- R141: with nothing offered in IDLE the unit is reset, `cnt` is 0, the state is kept, and nothing moves. The counter
`cnt` is the spec's own (D15, log 15). -/
def Obligations.InsIdleWaitResult : Prop :=
  ∀ s : State, InsCycle s .idle → s.inputs.ins.sinkValid = false →
    decode (cycleWord s) = some .insIdleWait ∧
    ∃ o, exec .insIdleWait s =
        .next { s with ins := { s.ins with cnt := 0, crc := List.replicate s.params.insDwb 0xFFFFFFFF#32 }, out := .inserter o } ∧
      o.sourceValid = false ∧ sourceXfer s.inputs.ins o = none ∧ sinkXfer s.inputs.ins o = none

/-- R142: an element offered in IDLE is looked at and not taken: the unit is reset and the state is COPY. The counter
`cnt`, 0 after it, is the spec's own (D15, log 15). -/
def Obligations.InsIdleStartResult : Prop :=
  ∀ s : State, InsCycle s .idle → s.inputs.ins.sinkValid = true →
    decode (cycleWord s) = some .insIdleStart ∧
    ∃ o, exec .insIdleStart s =
        .next { s with ins := { s.ins with st := .copy, cnt := 0, crc := List.replicate s.params.insDwb 0xFFFFFFFF#32 }, out := .inserter o } ∧
      o.sourceValid = false ∧ o.sinkReady = false ∧ sourceXfer s.inputs.ins o = none ∧ sinkXfer s.inputs.ins o = none

/-- R143: with nothing offered in COPY all state is kept and nothing moves. -/
def Obligations.InsCopyWaitResult : Prop :=
  ∀ s : State, InsCycle s .copy → s.inputs.ins.sinkValid = false →
    decode (cycleWord s) = some .insCopyWait ∧
    ∃ o, exec .insCopyWait s = .next { s with out := .inserter o } ∧
      o.sourceValid = false ∧ sourceXfer s.inputs.ins o = none ∧ sinkXfer s.inputs.ins o = none

/-- R144: with downstream not ready in COPY the element is shown with `last = 0`, all state is kept and nothing moves. -/
def Obligations.InsCopyStallResult : Prop :=
  ∀ s : State, InsCycle s .copy → s.inputs.ins.sinkValid = true → s.inputs.ins.sourceReady = false →
    decode (cycleWord s) = some .insCopyStall ∧
    exec .insCopyStall s = .next { s with out := .inserter ⟨false, true,
      ⟨s.inputs.ins.sink.data, false, s.inputs.ins.sink.lastBe, s.inputs.ins.sink.error⟩⟩ }

/-- R145: a non-final element is passed through unchanged and folded on every lane; `st`, `cnt` and `lbe_l` are kept. -/
def Obligations.InsCopyXferResult : Prop :=
  ∀ (s : State) (top : Crc), InsCycle s .copy → s.inputs.ins.sinkValid = true → s.inputs.ins.sink.last = false →
    s.inputs.ins.sourceReady = true → s.ins.crc[s.params.insDwb - 1]? = some top →
    decode (cycleWord s) = some .insCopyXfer ∧
    exec .insCopyXfer s = .next { s with
      ins := { s.ins with crc := foldLanes s.params.insDwb top s.inputs.ins.sink.data }
      out := .inserter ⟨true, true,
        ⟨s.inputs.ins.sink.data, false, s.inputs.ins.sink.lastBe, s.inputs.ins.sink.error⟩⟩ }

/-- R146: the final element is passed with `last = 0` and folded, and the state is APPEND. That its `last_be` is latched
(D13) and that `cnt` is 0 (D15) are the spec's choices (log 15). -/
def Obligations.InsCopyLastResult : Prop :=
  ∀ (s : State) (top : Crc), InsCycle s .copy → s.inputs.ins.sinkValid = true → s.inputs.ins.sink.last = true →
    s.inputs.ins.sourceReady = true → s.ins.crc[s.params.insDwb - 1]? = some top →
    decode (cycleWord s) = some .insCopyLast ∧
    exec .insCopyLast s = .next { s with
      ins := ⟨.append, 0, s.inputs.ins.sink.lastBe, foldLanes s.params.insDwb top s.inputs.ins.sink.data⟩
      out := .inserter ⟨true, true,
        ⟨s.inputs.ins.sink.data, false, s.inputs.ins.sink.lastBe, s.inputs.ins.sink.error⟩⟩ }

/-- R147, R151: with downstream not ready in APPEND the trailer element of `cnt` is shown, an offered sink element is not
taken, and all state is kept. The spec's choices in it are the chunk order (C1), the latch (D13), `last_be` and `error` (D14) and `cnt` (D15); log 15. -/
def Obligations.InsAppendStallResult : Prop :=
  ∀ s : State, InsCycle s .append → s.inputs.ins.sourceReady = false →
    decode (cycleWord s) = some .insAppendStall ∧
    ∃ o, exec .insAppendStall s = .next { s with out := .inserter o } ∧
      o.sourceValid = true ∧ sourceXfer s.inputs.ins o = none ∧ sinkXfer s.inputs.ins o = none ∧
      o.source.last = (s.ins.cnt == Config.ratio s.params.insDwb - 1) ∧ o.source.error = false ∧
      o.source.lastBe = (if s.ins.cnt = Config.ratio s.params.insDwb - 1
        then (List.range s.params.insDwb).map (· == s.params.insDwb - 1) else List.replicate s.params.insDwb false) ∧
      ∀ k r, laneSel s.params.insDwb s.ins.lbe = some k → s.ins.crc[k]? = some r →
        o.source.data = chunk s.params.insDwb (crcOutput r) s.ins.cnt

/-- R148, R151, R158: a trailer element that is not the final one is emitted with `last = 0` and no lane marked,
carrying chunk `cnt` of the latched lane's CRC, and `cnt` counts on; whatever the latch, everything but the data is as
stated. The spec's choices in it are the chunk order (C1), the latch (D13), `last_be` and `error` (D14) and `cnt` (D15);
log 15. -/
def Obligations.InsAppendChunkResult : Prop :=
  ∀ s : State, InsCycle s .append → s.inputs.ins.sourceReady = true → s.ins.cnt + 1 < Config.ratio s.params.insDwb →
    decode (cycleWord s) = some .insAppendChunk ∧
    ∃ o, exec .insAppendChunk s = .next { s with ins := { s.ins with cnt := s.ins.cnt + 1 }, out := .inserter o } ∧
      sourceXfer s.inputs.ins o = some ⟨o.source.data, false, List.replicate s.params.insDwb false, false⟩ ∧
      sinkXfer s.inputs.ins o = none ∧
      ∀ k r, laneSel s.params.insDwb s.ins.lbe = some k → s.ins.crc[k]? = some r →
        o.source.data = (List.range s.params.insDwb).map fun j =>
          (crcOutput r).extractLsb' (8 * (s.params.insDwb * s.ins.cnt + j)) 8

/-- R149, R151, R158: the final trailer element is emitted with `last = 1` and the top lane marked, and the state goes
back to IDLE with `cnt = 0`. The spec's choices in it are the chunk order (C1), the latch (D13), `last_be` and `error`
(D14) and `cnt` (D15); log 15. -/
def Obligations.InsAppendFinalResult : Prop :=
  ∀ s : State, InsCycle s .append → s.inputs.ins.sourceReady = true → s.ins.cnt + 1 = Config.ratio s.params.insDwb →
    decode (cycleWord s) = some .insAppendFinal ∧
    ∃ o, exec .insAppendFinal s = .next { s with ins := { s.ins with st := .idle, cnt := 0 }, out := .inserter o } ∧
      sourceXfer s.inputs.ins o =
        some ⟨o.source.data, true, (List.range s.params.insDwb).map (· == s.params.insDwb - 1), false⟩ ∧
      sinkXfer s.inputs.ins o = none ∧
      ∀ k r, laneSel s.params.insDwb s.ins.lbe = some k → s.ins.crc[k]? = some r →
        o.source.data = (List.range s.params.insDwb).map fun j =>
          (crcOutput r).extractLsb' (8 * (s.params.insDwb * s.ins.cnt + j)) 8

/-- R140, R224: in every cycle of the Inserter the unit is reset in IDLE, updated with the sink's data exactly when COPY
transfers, and held otherwise; and the port's valid and ready are the handshake equations. -/
def Obligations.InsDrivesUnitAndHandshake : Prop :=
  ∀ s t : State, s.inputs.sel = .inserter → step s = .next t →
    t.ins.crc = (if s.ins.st = .idle then bankReset s.params.insDwb
      else if s.ins.st = .copy ∧ s.inputs.ins.sinkValid = true ∧ s.inputs.ins.sourceReady = true then
        bankUpdate s.params.insDwb s.ins.crc s.inputs.ins.sink.data
      else s.ins.crc) ∧
    ∃ o, t.out = .inserter o ∧
      (o.sourceValid = true ↔ (s.ins.st = .copy ∧ s.inputs.ins.sinkValid = true) ∨ s.ins.st = .append) ∧
      (s.inputs.ins.sinkValid = true →
        (o.sinkReady = true ↔ s.ins.st = .copy ∧ s.inputs.ins.sourceReady = true))

/-- R153, R154, R158: a run of the machine, under every pattern of offers and of `source.ready`, and with cycles of the
other components anywhere, that takes the Inserter from IDLE to IDLE over one accepted packet emits exactly the packet
with `last` suppressed and then RATIO trailer elements. Their data are the chunks of the packet's CRC when the final mask
selects a lane, and some lanes of the port's width when it has two bits or more. The spec's choices in it are the order of
the trailer's bytes (C1), the latch (D13), and `last_be` and `error` of the trailer elements (D14); log 15. -/
def Obligations.InserterPacketContract : Prop :=
  ∀ (n : Nat) (s t : State) (tr : Trace) (body : List Element) (fin : Element),
    pipelineAdmitted s.params.insDwb = true → s.ins.st = .idle → t.ins.st = .idle → run n s = some (tr, t) →
    insAccepted tr = body ++ [fin] → (∀ e ∈ body, e.last = false) → fin.last = true →
    ∃ d : Nat → Lanes, insEmitted tr = insPacket s.params.insDwb (body ++ [fin]) d ∧
      (∀ i, (d i).length = s.params.insDwb) ∧
      ∀ k, laneSel s.params.insDwb fin.lastBe = some k →
        d = fun i => chunk s.params.insDwb (byteCrc (validBytes body fin k)) i

/-- R232, first row: with an upstream that offers each element until it is taken and downstream always ready, a packet of
`n` elements takes the Inserter from IDLE to IDLE in `1 + n + RATIO` cycles, every element accepted. -/
def Obligations.InserterPacketCycleCount : Prop :=
  ∀ (s : State) (x : Inputs) (body : List Element) (fin : Element),
    pipelineAdmitted s.params.insDwb = true → s.ins.st = .idle →
    (∀ e ∈ body ++ [fin], e.wf s.params.insDwb = true) → (∀ e ∈ body, e.last = false) → fin.last = true →
    ∃ tr t, run (1 + (body ++ [fin]).length + Config.ratio s.params.insDwb)
        (s.load (((body ++ [fin]).take 1 ++ (body ++ [fin]) ++
          List.replicate (Config.ratio s.params.insDwb) fin).map (offerIns x))) = some (tr, t) ∧
      t.ins.st = .idle ∧ insAccepted tr = body ++ [fin]

/-! ## The Checker (43_checker) -/

/-- R176: in RESET nothing is accepted or released, the unit is reset, the buffer emptied and the state IDLE. That an
offered element waits is the spec's choice (D16, log 15). -/
def Obligations.ChkResetResult : Prop :=
  ∀ s : State, ChkReady s → s.inputs.sel = .checker → s.chk.st = .reset →
    decode (cycleWord s) = some .chkReset ∧
    ∃ o, exec .chkReset s =
        .next { s with chk := ⟨.idle, [], List.replicate s.params.chkDwb 0xFFFFFFFF#32⟩, out := .checker o false } ∧
      o.sourceValid = false ∧ sourceXfer s.inputs.chk o = none ∧ sinkXfer s.inputs.chk o = none

/-- R177: with nothing offered outside RESET all state is kept and nothing moves. That a full buffer too releases nothing
without an offered element is the spec's choice (the release condition, D17, log 15). -/
def Obligations.ChkWaitResult : Prop :=
  ∀ s : State, ChkCycle s → s.inputs.chk.sinkValid = false →
    decode (cycleWord s) = some .chkWait ∧
    ∃ o, exec .chkWait s = .next { s with out := .checker o false } ∧
      o.sourceValid = false ∧ sourceXfer s.inputs.chk o = none ∧ sinkXfer s.inputs.chk o = none

/-- R178: a non-final element is taken into a buffer with room, whatever `source.ready`, folded and pushed; the state
becomes or stays ACTIVE; nothing is released. That it is taken whatever `source.ready`, with nothing released below
RATIO (D17), and that the unit folds it (D25), are the spec's choices (log 15). -/
def Obligations.ChkFillResult : Prop :=
  ∀ (s : State) (top : Crc), ChkCycle s → s.inputs.chk.sinkValid = true → s.inputs.chk.sink.last = false →
    s.chk.buf.length < Config.ratio s.params.chkDwb → s.chk.crc[s.params.chkDwb - 1]? = some top →
    decode (cycleWord s) = some .chkFill ∧
    ∃ o, exec .chkFill s =
        .next { s with
          chk := ⟨.active, s.chk.buf ++ [s.inputs.chk.sink], foldLanes s.params.chkDwb top s.inputs.chk.sink.data⟩
          out := .checker o false } ∧
      o.sourceValid = false ∧ o.sinkReady = true ∧ sinkXfer s.inputs.chk o = some s.inputs.chk.sink

/-- R179: a final element is taken into a buffer with room, whatever `source.ready`, folded and pushed; the state becomes
RESET; nothing is released. The release condition (D17) and the unit's wiring (D25) are the spec's choices (log 15). -/
def Obligations.ChkFillLastResult : Prop :=
  ∀ (s : State) (top : Crc), ChkCycle s → s.inputs.chk.sinkValid = true → s.inputs.chk.sink.last = true →
    s.chk.buf.length < Config.ratio s.params.chkDwb → s.chk.crc[s.params.chkDwb - 1]? = some top →
    decode (cycleWord s) = some .chkFillLast ∧
    ∃ o, exec .chkFillLast s =
        .next { s with
          chk := ⟨.reset, s.chk.buf ++ [s.inputs.chk.sink], foldLanes s.params.chkDwb top s.inputs.chk.sink.data⟩
          out := .checker o false } ∧
      o.sourceValid = false ∧ o.sinkReady = true ∧ sinkXfer s.inputs.chk o = some s.inputs.chk.sink

/-- R180: with the buffer full and downstream not ready the oldest element is shown with the incoming `last`, nothing
moves, no pulse fires and all state is kept. The shown error bit is R173's: with an incoming final element whose
mask selects a lane, the OR of every buffered bit, the incoming bit and the residue mismatch. The spec's choices in it are
the release condition (D17), the error composition (D18), `last` from the sink (D21) and the lane of the residue test
(D25); log 15. -/
def Obligations.ChkStallResult : Prop :=
  ∀ (s : State) (b : Element) (rest : List Element), ChkCycle s → s.inputs.chk.sinkValid = true →
    s.inputs.chk.sourceReady = false → s.chk.buf = b :: rest → (b :: rest).length = Config.ratio s.params.chkDwb →
    decode (cycleWord s) = some .chkStall ∧
    ∃ err, exec .chkStall s =
        .next { s with out := .checker ⟨false, true, ⟨b.data, s.inputs.chk.sink.last, b.lastBe, err⟩⟩ false } ∧
      (s.inputs.chk.sink.last = false → err = b.error) ∧
      ∀ k top, s.inputs.chk.sink.last = true → laneSel s.params.chkDwb s.inputs.chk.sink.lastBe = some k →
        s.chk.crc[s.params.chkDwb - 1]? = some top →
        err = ((b :: rest).any (·.error) || s.inputs.chk.sink.error ||
          fold top (s.inputs.chk.sink.data.take (k + 1)) != 0xC704DD7B#32)

/-- R181: with the buffer full and downstream ready a non-final element is taken and folded, the oldest leaves with its
own `data`, `last_be` and `error` and `last = 0`, and no pulse fires. The spec's choices in it are the release at RATIO
elements together with the accepted one (C7, D17), the element's own error bit (C6, D18), `last` from the sink (D21) and
the unit's wiring (D25); log 15. -/
def Obligations.ChkPassResult : Prop :=
  ∀ (s : State) (b : Element) (rest : List Element) (top : Crc), ChkCycle s → s.inputs.chk.sinkValid = true →
    s.inputs.chk.sink.last = false → s.inputs.chk.sourceReady = true → s.chk.buf = b :: rest →
    (b :: rest).length = Config.ratio s.params.chkDwb → s.chk.crc[s.params.chkDwb - 1]? = some top →
    decode (cycleWord s) = some .chkPass ∧
    exec .chkPass s = .next { s with
      chk := ⟨.active, rest ++ [s.inputs.chk.sink], foldLanes s.params.chkDwb top s.inputs.chk.sink.data⟩
      out := .checker ⟨true, true, ⟨b.data, false, b.lastBe, b.error⟩⟩ false }

/-- R182, R173, R175: with a final element the oldest leaves with `last = 1` and the OR of every buffered error bit, the
incoming one and the residue mismatch, which alone is the pulse; the state becomes RESET with the trailer still
buffered. The spec's choices in it are the release condition (D17), the error composition (D18), the gated
pulse (D19), `last` from the sink (D21), and the unit's wiring and the lane of the residue test (D25); log 15. -/
def Obligations.ChkPassLastResult : Prop :=
  ∀ (s : State) (b : Element) (rest : List Element) (top : Crc), ChkCycle s → s.inputs.chk.sinkValid = true →
    s.inputs.chk.sink.last = true → s.inputs.chk.sourceReady = true → s.chk.buf = b :: rest →
    (b :: rest).length = Config.ratio s.params.chkDwb → s.chk.crc[s.params.chkDwb - 1]? = some top →
    decode (cycleWord s) = some .chkPassLast ∧
    ∃ crcerr, exec .chkPassLast s = .next { s with
        chk := ⟨.reset, rest ++ [s.inputs.chk.sink], foldLanes s.params.chkDwb top s.inputs.chk.sink.data⟩
        out := .checker ⟨true, true, ⟨b.data, true, b.lastBe,
          (b :: rest).any (·.error) || s.inputs.chk.sink.error || crcerr⟩⟩ crcerr } ∧
      ∀ k, laneSel s.params.chkDwb s.inputs.chk.sink.lastBe = some k →
        crcerr = (fold top (s.inputs.chk.sink.data.take (k + 1)) != 0xC704DD7B#32)

/-- R183, R170, R224: the Checker's next state, what its unit does, and its handshake equations, in every cycle of it.
The spec's choices in it are the sink not ready in RESET (D16), the handshake equations (D17) and the unit's wiring
(D25); log 15. -/
def Obligations.ChkTransitionsAndHandshake : Prop :=
  ∀ s t : State, s.inputs.sel = .checker → step s = .next t →
    ∃ o p, t.out = .checker o p ∧
      (o.sourceValid = true ↔ s.chk.st ≠ .reset ∧ s.inputs.chk.sinkValid = true ∧
        s.chk.buf.length = Config.ratio s.params.chkDwb) ∧
      (s.inputs.chk.sinkValid = true → (o.sinkReady = true ↔ s.chk.st ≠ .reset ∧
        (s.chk.buf.length ≠ Config.ratio s.params.chkDwb ∨ s.inputs.chk.sourceReady = true))) ∧
      t.chk.st = (if s.chk.st = .reset then .idle
        else if (sinkXfer s.inputs.chk o).isSome = false then s.chk.st
        else if s.inputs.chk.sink.last = true then .reset else .active) ∧
      t.chk.crc = (if s.chk.st = .reset then bankReset s.params.chkDwb
        else if (sinkXfer s.inputs.chk o).isSome = true then
          bankUpdate s.params.chkDwb s.chk.crc s.inputs.chk.sink.data
        else s.chk.crc)

/-- R183: nothing outside the Checker can tell IDLE from ACTIVE: two machines that differ only there have the same inputs
and outputs in every run. -/
def Obligations.IdleAndActiveIndistinguishable : Prop :=
  ∀ (n : Nat) (s : State),
    (run n { s with chk := { s.chk with st := .idle } }).map (·.1) =
      (run n { s with chk := { s.chk with st := .active } }).map (·.1)

/-- R185, R186, R187, R189: a run that takes the Checker from RESET to RESET over one accepted packet, under every pattern
of offers and of `source.ready`, emits exactly the packet less its last RATIO elements, with the final annotation; the
pulse fires once when the packet is longer than its trailer and the residue test fails, with the release of a final
element that carries `error = 1`, and never otherwise. The residue verdict is that of the lane the final mask selects,
and some bit, the same in the annotation and the pulse, when the mask has two bits or more. The spec's choices in it are
that RESET accepts nothing (D16), the release condition (D17), the error composition (D18), the gated pulse (D19),
`source.last` from the sink (D21), the lane of the residue test (D25) and the silence of short packets (C9); log 15. -/
def Obligations.CheckerPacketContract : Prop :=
  ∀ (n : Nat) (s t : State) (tr : Trace) (body : List Element) (fin : Element),
    pipelineAdmitted s.params.chkDwb = true → s.chk.st = .reset → t.chk.st = .reset → run n s = some (tr, t) →
    chkAccepted tr = body ++ [fin] → (∀ e ∈ body, e.last = false) → fin.last = true →
    ∃ crcErr : Bool, (∀ k, laneSel s.params.chkDwb fin.lastBe = some k → crcErr = packetCrcErr body fin k) ∧
    chkEmitted tr = chkPacket s.params.chkDwb (body ++ [fin]) crcErr ∧
    pulseCount tr = (if Config.ratio s.params.chkDwb ≤ body.length ∧ crcErr = true then 1 else 0) ∧
    ∀ c ∈ tr, pulses c.2 = true → ∃ e, chkEmits c.1 c.2 = some e ∧ e.last = true ∧ e.error = true

/-- R232, Checker row: with an upstream that offers each element until it is taken and downstream always ready, a packet
of `T` elements takes the Checker from RESET to RESET in `1 + T` cycles. The cycle more is the one in RESET, which
accepts nothing: the spec's choice (D16), as are the release equations (D17); log 15. -/
def Obligations.CheckerPacketCycleCount : Prop :=
  ∀ (s : State) (x : Inputs) (body : List Element) (fin : Element),
    pipelineAdmitted s.params.chkDwb = true → s.chk.st = .reset →
    (∀ e ∈ body ++ [fin], e.wf s.params.chkDwb = true) → (∀ e ∈ body, e.last = false) → fin.last = true →
    ∃ tr t, run (1 + (body ++ [fin]).length)
        (s.load (((body ++ [fin]).take 1 ++ (body ++ [fin])).map (offerChk x))) = some (tr, t) ∧
      t.chk.st = .reset ∧ chkAccepted tr = body ++ [fin]

/-- R228: whatever the stalls on either side, a Checker that accepts exactly what an Inserter of the same width emitted
for a packet whose last word is full emits that packet and no pulse. The spec's choices in it are those the two packet
contracts name, and the round trip of full last words alone (C8); log 15. -/
def Obligations.AlignedRoundTrip : Prop :=
  ∀ (n m : Nat) (s t u v : State) (tr tr' : Trace) (body : List Element) (fin : Element),
    pipelineAdmitted s.params.insDwb = true → u.params.chkDwb = s.params.insDwb →
    s.ins.st = .idle → t.ins.st = .idle → run n s = some (tr, t) →
    insAccepted tr = body ++ [fin] → (∀ e ∈ body, e.last = false) → fin.last = true →
    laneSel s.params.insDwb fin.lastBe = some (s.params.insDwb - 1) →
    u.chk.st = .reset → v.chk.st = .reset → run m u = some (tr', v) → chkAccepted tr' = insEmitted tr →
    chkEmitted tr' = body ++ [fin] ∧ pulseCount tr' = 0

/-- R224, R51: in a chained cycle the element the Inserter emits is the element the Checker accepts, and there is one
exactly when there is the other. The Checker's handshake equations are the spec's choice (D16, D17, log 15). -/
def Obligations.ChainTransfersAgree : Prop :=
  ∀ (s u : State) (valid ready : Bool) (e : Element) (x : Inputs) (o q : CycleOut),
    s.params.insDwb = s.params.chkDwb → chainCycle s valid e ready = some (u, x, o, q) →
    insEmits x o = chkAccepts x q

/-! ## Decoding (30_encoding) -/

/-- R81: every legal decode word matches exactly one row of its class, and a word with s = 11 matches none; the decoder
answers that row's operation. The decode words and the state codes are the spec's own (D3, log 15). -/
def Obligations.DecodeTotalAndUnambiguous : Prop :=
  (∀ w : BitVec 2, (unitctlRows.filter (rowHits · w)).length = 1 ∧
    (unitctlRows.filter (rowHits · w)).head?.map (·.instr) = decode (.unitctl w)) ∧
  (∀ w : BitVec 6, (insdecRows.filter (rowHits · w)).length = (if (DecodeWord.insdec w).wf then 1 else 0) ∧
    (insdecRows.filter (rowHits · w)).head?.map (·.instr) = decode (.insdec w)) ∧
  (∀ w : BitVec 6, (chkdecRows.filter (rowHits · w)).length = (if (DecodeWord.chkdec w).wf then 1 else 0) ∧
    (chkdecRows.filter (rowHits · w)).head?.map (·.instr) = decode (.chkdec w))

/-- R80: decoding an operation's word gives the operation, its word is legal, and decoding is the only way to it: a word
of a class decodes to an operation only if their rows' fixed bits agree. The decode words and the state codes are the
spec's own (D3, log 15). -/
def Obligations.DecodeEncodeAgree : Prop :=
  (∀ i : Instr, decode (encode i) = some i ∧ (encode i).wf = true) ∧
  (∀ (d : DecodeWord) (i : Instr), decode d = some i →
    match d, encode i with
    | .comb p, .comb q => p = q
    | .unitctl w, .unitctl m => ∃ r ∈ unitctlRows, r.instr = i ∧ r.mtch = m ∧ w &&& r.mask = m
    | .insdec w, .insdec m => ∃ r ∈ insdecRows, r.instr = i ∧ r.mtch = m ∧ w &&& r.mask = m
    | .chkdec w, .chkdec m => ∃ r ∈ chkdecRows, r.instr = i ∧ r.mtch = m ∧ w &&& r.mask = m
    | _, _ => False)

/-- 95_test_vectors 2.4: words written out from the spec's fields and vectors decode to their operations. The decode
words and the state codes are the spec's own (D3, log 15). -/
def Obligations.SampleWordsDecode : Prop :=
  decode (.unitctl 0b11#2) = some .unitReset ∧ decode (.insdec 0x03#6) = some .insIdleWait ∧
  decode (.insdec 0x0F#6) = some .insIdleStart ∧ decode (.insdec 0x19#6) = some .insCopyStall ∧
  decode (.insdec 0x1B#6) = some .insCopyXfer ∧ decode (.insdec 0x1F#6) = some .insCopyLast ∧
  decode (.insdec 0x28#6) = some .insAppendStall ∧ decode (.insdec 0x2B#6) = some .insAppendFinal ∧
  decode (.insdec 0x30#6) = none ∧ decode (.chkdec 0x2F#6) = some .chkReset ∧
  decode (.chkdec 0x13#6) = some .chkWait ∧ decode (.chkdec 0x0E#6) = some .chkFillLast ∧
  decode (.chkdec 0x1D#6) = some .chkStall ∧ decode (.chkdec 0x3F#6) = none

/-- R73, R75, R80: the operation of a pipeline's cycle is the one whose condition holds, for every state and input. The
decode words (D3), the counter (D15) and a Checker full at RATIO (D17) are the spec's own (log 15). -/
def Obligations.CycleWordSelectsByCondition : Prop :=
  (∀ s : State, s.inputs.sel = .inserter → decode (cycleWord s) = some (
    match s.ins.st with
    | .idle => if s.inputs.ins.sinkValid then .insIdleStart else .insIdleWait
    | .copy => if !s.inputs.ins.sinkValid then .insCopyWait else if !s.inputs.ins.sourceReady then .insCopyStall
        else if s.inputs.ins.sink.last then .insCopyLast else .insCopyXfer
    | .append => if !s.inputs.ins.sourceReady then .insAppendStall
        else if s.ins.cnt = Config.ratio s.params.insDwb - 1 then .insAppendFinal else .insAppendChunk)) ∧
  (∀ s : State, s.inputs.sel = .checker → decode (cycleWord s) = some (
    if s.chk.st = .reset then .chkReset
    else if !s.inputs.chk.sinkValid then .chkWait
    else if s.chk.buf.length = Config.ratio s.params.chkDwb then
      if !s.inputs.chk.sourceReady then .chkStall else if s.inputs.chk.sink.last then .chkPassLast else .chkPass
    else if s.inputs.chk.sink.last then .chkFillLast else .chkFill))

/-! ## The machine -/

/-- A step runs the decoded operation: its next state with the cycle ended (a fresh draw, the script's next inputs or the
same again: the model's convention, log 5), and its refusal as it is. -/
def Obligations.StepRunsDecodedOperation : Prop :=
  ∀ (s : State) (i : Instr), decode (cycleWord s) = some i →
    (∀ t, exec i s = .next t → ∃ x rest,
      step s = .next { t with inputs := x, script := rest, draw := t.draw + 1 } ∧
        (x :: rest = t.script ∨ t.script = [] ∧ x = t.inputs ∧ rest = [])) ∧
    (∀ r, exec i s = .refused r → step s = .refused r)

/-- R200: no step faults: nothing traps, and no state reaches a word without an operation (R82). -/
def Obligations.StepNeverFaults : Prop := ∀ (s : State) (r : Fault), step s ≠ .fault r

/-- R200: "Every operation is defined for every input value": in an admitted instance every step on inputs of the ports'
widths answers a next state. -/
def Obligations.StepAlwaysCompletes : Prop :=
  ∀ s : State, s.params.wf = true → s.inputs.wf s.params = true → ∃ t, step s = .next t

/-- R6: an instance whose width is not admitted is refused, in every cycle of its component, the unit's two combinational
functions among them; and inputs that have not the port's widths, or an engine word of no bits, are refused (the model's
convention, log 11). The widths a pipeline admits are the spec's choice (D1, log 15). -/
def Obligations.UnadmittedInstancesRefused : Prop :=
  (∀ s : State, s.inputs.sel = .inserter → s.params.insDwb ∉ [1, 2, 4] → step s = .refused .unadmittedWidth) ∧
  (∀ s : State, s.inputs.sel = .checker → s.params.chkDwb ∉ [1, 2, 4] → step s = .refused .unadmittedWidth) ∧
  (∀ s : State, s.inputs.sel ∈ [.unit, .comb .unitValue, .comb .unitError] → s.params.unitDwb = 0 →
    step s = .refused .unadmittedWidth) ∧
  (∀ s : State, s.inputs.sel = .inserter → s.params.insDwb ∈ [1, 2, 4] → s.inputs.ins.wf s.params.insDwb = false →
    step s = .refused .illFormedInput) ∧
  (∀ s : State, s.inputs.sel = .checker → s.params.chkDwb ∈ [1, 2, 4] → s.inputs.chk.wf s.params.chkDwb = false →
    step s = .refused .illFormedInput) ∧
  (∀ s : State, s.inputs.sel ∈ [.unit, .comb .unitValue, .comb .unitError] → s.params.unitDwb ≠ 0 →
    s.inputs.unit.wf s.params.unitDwb = false → step s = .refused .illFormedInput) ∧
  (∀ s : State, s.inputs.sel = .comb .engNext → s.inputs.engine.data = [] → step s = .refused .illFormedInput)

/-- R35, R220: what reset leaves, for every admitted instance and whatever the parts the spec leaves unspecified. That
the inputs can be any is the model's convention (log 5). The counter `cnt`, reset 0, is the spec's own (D15, log 15). -/
def Obligations.ResetLeavesStatedValues : Prop :=
  (∀ s : State, IsReset s →
    s.unit = List.replicate s.params.unitDwb 0xFFFFFFFF#32 ∧ s.ins.crc = List.replicate s.params.insDwb 0xFFFFFFFF#32 ∧
    s.chk.crc = List.replicate s.params.chkDwb 0xFFFFFFFF#32 ∧ s.ins.st = .idle ∧ s.ins.cnt = 0 ∧ s.chk.st = .reset) ∧
  IsReset State.reset

/-- The invariant holds at reset: at the model's own reset state, and at every reset state of an admitted instance,
whatever its latch and its staging buffer, a full one among them. -/
def Obligations.InvariantHoldsAtReset : Prop :=
  StateInv State.reset ∧ ∀ s : State, IsReset s → StateInv s

/-- R22, R25, R29, R31: every step keeps the widths of the banks, of the latch and of the buffered elements, `cnt` in
range, and the buffer's occupancy: none in IDLE, 1 to RATIO in ACTIVE, at most the capacity in RESET; and a cycle of the
Checker leaves at most RATIO, also where it enters RESET. The spec's choices in it are the latch (D13), the counter
(D15), and the release condition that bounds the buffer (D17); log 15. -/
def Obligations.StepKeepsInvariant : Prop :=
  ∀ s t : State, StateInv s → step s = .next t →
    StateInv t ∧ (s.inputs.sel = .checker → t.chk.buf.length ≤ Config.ratio t.params.chkDwb)

/-- R8: no step changes a parameter. -/
def Obligations.ParametersNeverChange : Prop := ∀ s t : State, step s = .next t → t.params = s.params

/-- R36: no step reads the outputs of the cycle before. -/
def Obligations.OutputsNeverRead : Prop := ∀ (s : State) (o : CycleOut), step { s with out := o } = step s

/-- R27, R30, R210: a component's cycle changes no other component's state, and is the same whatever the other components
hold and are given. -/
def Obligations.ComponentsShareNoState : Prop :=
  (∀ s t : State, step s = .next t →
    (s.inputs.sel ≠ .unit → t.unit = s.unit) ∧ (s.inputs.sel ≠ .inserter → t.ins = s.ins) ∧
    (s.inputs.sel ≠ .checker → t.chk = s.chk)) ∧
  (∀ s s' t : State, s'.params = s.params → s'.draw = s.draw → s'.ins = s.ins → s'.inputs.ins = s.inputs.ins →
    s.inputs.sel = .inserter → s'.inputs.sel = .inserter → step s = .next t →
    ∃ t', step s' = .next t' ∧ t'.ins = t.ins ∧ t'.out = t.out) ∧
  (∀ s s' t : State, s'.params = s.params → s'.draw = s.draw → s'.chk = s.chk → s'.inputs.chk = s.inputs.chk →
    s.inputs.sel = .checker → s'.inputs.sel = .checker → step s = .next t →
    ∃ t', step s' = .next t' ∧ t'.chk = t.chk ∧ t'.out = t.out) ∧
  (∀ s s' t : State, s'.params = s.params → s'.draw = s.draw → s'.unit = s.unit → s'.inputs.unit = s.inputs.unit →
    s.inputs.sel = .unit → s'.inputs.sel = .unit → step s = .next t →
    ∃ t', step s' = .next t' ∧ t'.unit = t.unit ∧ t'.out = t.out)

/-- R202, R204: the error bits that elements carry change no handshake, no register, no transition, no pulse, and none
of the elements, buffered, offered or emitted, but their error bits: with the bits cleared before a step, the whole
state after it, outputs included, is the same but for the error bits of elements. The gated pulse (D19) is the spec's
choice (log 15). -/
def Obligations.ErrorBitsChangeNothingElse : Prop :=
  ∀ s t : State, step s = .next t →
    ∃ t', step (clearErrors s) = .next t' ∧ clearErrors t' = clearErrors t ∧ clearOut t'.out = clearOut t.out ∧
      pulses t'.out = pulses t.out ∧ handshake t'.out = handshake t.out

/-- R26, R29, R220: no run from reset can tell what the latch and the staging buffer held: the inputs and outputs are
the same. Both runs draw the same free values. The latch is the spec's own (D13, log 15). -/
def Obligations.ResetContentsNeverObserved : Prop :=
  ∀ (p : Params) (lbe lbe' : LaneMask) (buf buf' : List Element) (xs : List Inputs) (n : Nat),
    (run n ((State.resetOf p lbe buf).load xs)).map (·.1) = (run n ((State.resetOf p lbe' buf').load xs)).map (·.1)

/-- R26, R29: every step keeps two states alike but for the latch outside APPEND and the staging buffer in RESET: what
one answers the other answers, with the same outputs, and the states after it are alike in the same way. Both steps draw
the same free values. The latch is the spec's own (D13, log 15). -/
def Obligations.StepKeepsAlikeButUnread : Prop :=
  ∀ s s' t : State, AlikeButUnread s s' → step s = .next t →
    ∃ t', step s' = .next t' ∧ AlikeButUnread t t' ∧ t'.out = t.out
end

