-- ==== Sys2Proof/Laws/State.lean ====
section
/-! SUPPORT. One lemma per field per update of State, true by rfl. -/

namespace Sys2Proof.Machine

variable (s : State)

@[simp] theorem State.setOut_params (o : CycleOut) : (s.setOut o).params = s.params := rfl
@[simp] theorem State.setOut_unit (o : CycleOut) : (s.setOut o).unit = s.unit := rfl
@[simp] theorem State.setOut_ins (o : CycleOut) : (s.setOut o).ins = s.ins := rfl
@[simp] theorem State.setOut_chk (o : CycleOut) : (s.setOut o).chk = s.chk := rfl
@[simp] theorem State.setOut_inputs (o : CycleOut) : (s.setOut o).inputs = s.inputs := rfl
@[simp] theorem State.setOut_script (o : CycleOut) : (s.setOut o).script = s.script := rfl
@[simp] theorem State.setOut_out (o : CycleOut) : (s.setOut o).out = o := rfl
@[simp] theorem State.setOut_draw (o : CycleOut) : (s.setOut o).draw = s.draw := rfl

@[simp] theorem State.setUnit_params (crc : List Crc) (o : CycleOut) : (s.setUnit crc o).params = s.params := rfl
@[simp] theorem State.setUnit_unit (crc : List Crc) (o : CycleOut) : (s.setUnit crc o).unit = crc := rfl
@[simp] theorem State.setUnit_ins (crc : List Crc) (o : CycleOut) : (s.setUnit crc o).ins = s.ins := rfl
@[simp] theorem State.setUnit_chk (crc : List Crc) (o : CycleOut) : (s.setUnit crc o).chk = s.chk := rfl
@[simp] theorem State.setUnit_inputs (crc : List Crc) (o : CycleOut) : (s.setUnit crc o).inputs = s.inputs := rfl
@[simp] theorem State.setUnit_script (crc : List Crc) (o : CycleOut) : (s.setUnit crc o).script = s.script := rfl
@[simp] theorem State.setUnit_out (crc : List Crc) (o : CycleOut) : (s.setUnit crc o).out = o := rfl
@[simp] theorem State.setUnit_draw (crc : List Crc) (o : CycleOut) : (s.setUnit crc o).draw = s.draw := rfl

@[simp] theorem State.setIns_params (i : Inserter) (o : StreamOut) : (s.setIns i o).params = s.params := rfl
@[simp] theorem State.setIns_unit (i : Inserter) (o : StreamOut) : (s.setIns i o).unit = s.unit := rfl
@[simp] theorem State.setIns_ins (i : Inserter) (o : StreamOut) : (s.setIns i o).ins = i := rfl
@[simp] theorem State.setIns_chk (i : Inserter) (o : StreamOut) : (s.setIns i o).chk = s.chk := rfl
@[simp] theorem State.setIns_inputs (i : Inserter) (o : StreamOut) : (s.setIns i o).inputs = s.inputs := rfl
@[simp] theorem State.setIns_script (i : Inserter) (o : StreamOut) : (s.setIns i o).script = s.script := rfl
@[simp] theorem State.setIns_out (i : Inserter) (o : StreamOut) : (s.setIns i o).out = .inserter o := rfl
@[simp] theorem State.setIns_draw (i : Inserter) (o : StreamOut) : (s.setIns i o).draw = s.draw := rfl

@[simp] theorem State.setChk_params (c : Checker) (o : StreamOut) (p : Bool) : (s.setChk c o p).params = s.params := rfl
@[simp] theorem State.setChk_unit (c : Checker) (o : StreamOut) (p : Bool) : (s.setChk c o p).unit = s.unit := rfl
@[simp] theorem State.setChk_ins (c : Checker) (o : StreamOut) (p : Bool) : (s.setChk c o p).ins = s.ins := rfl
@[simp] theorem State.setChk_chk (c : Checker) (o : StreamOut) (p : Bool) : (s.setChk c o p).chk = c := rfl
@[simp] theorem State.setChk_inputs (c : Checker) (o : StreamOut) (p : Bool) : (s.setChk c o p).inputs = s.inputs := rfl
@[simp] theorem State.setChk_script (c : Checker) (o : StreamOut) (p : Bool) : (s.setChk c o p).script = s.script := rfl
@[simp] theorem State.setChk_out (c : Checker) (o : StreamOut) (p : Bool) : (s.setChk c o p).out = .checker o p := rfl
@[simp] theorem State.setChk_draw (c : Checker) (o : StreamOut) (p : Bool) : (s.setChk c o p).draw = s.draw := rfl

@[simp] theorem endCycle_params : (endCycle s).params = s.params := by unfold endCycle; split <;> rfl
@[simp] theorem endCycle_unit : (endCycle s).unit = s.unit := by unfold endCycle; split <;> rfl
@[simp] theorem endCycle_ins : (endCycle s).ins = s.ins := by unfold endCycle; split <;> rfl
@[simp] theorem endCycle_chk : (endCycle s).chk = s.chk := by unfold endCycle; split <;> rfl
@[simp] theorem endCycle_out : (endCycle s).out = s.out := by unfold endCycle; split <;> rfl
@[simp] theorem endCycle_draw : (endCycle s).draw = s.draw + 1 := by unfold endCycle; split <;> rfl

theorem endCycle_script_nil (h : s.script = []) : endCycle s = { s with draw := s.draw + 1 } := by simp [endCycle, h]

theorem endCycle_script_cons {x : Inputs} {rest : List Inputs} (h : s.script = x :: rest) :
    endCycle s = { s with inputs := x, script := rest, draw := s.draw + 1 } := by simp [endCycle, h]

@[simp] theorem State.resetOf_params (p : Params) (lbe : LaneMask) (buf : List Element) :
    (State.resetOf p lbe buf).params = p := rfl
@[simp] theorem State.resetOf_unit (p : Params) (lbe : LaneMask) (buf : List Element) :
    (State.resetOf p lbe buf).unit = List.replicate p.unitDwb Config.init := rfl
@[simp] theorem State.resetOf_ins (p : Params) (lbe : LaneMask) (buf : List Element) :
    (State.resetOf p lbe buf).ins = ⟨.idle, 0, lbe, List.replicate p.insDwb Config.init⟩ := rfl
@[simp] theorem State.resetOf_chk (p : Params) (lbe : LaneMask) (buf : List Element) :
    (State.resetOf p lbe buf).chk = ⟨.reset, buf, List.replicate p.chkDwb Config.init⟩ := rfl
@[simp] theorem State.resetOf_script (p : Params) (lbe : LaneMask) (buf : List Element) :
    (State.resetOf p lbe buf).script = [] := rfl
@[simp] theorem State.resetOf_draw (p : Params) (lbe : LaneMask) (buf : List Element) :
    (State.resetOf p lbe buf).draw = 0 := rfl

end Sys2Proof.Machine
end

