-- ==== Sys2Proof/Laws/Ops.lean ====
section
/-! SUPPORT. What each shared operation can do, said once: the operand forms, the banks, the buffer, and the three
shared ends of an operation. -/

namespace Sys2Proof.Machine

/-! Operand forms. -/

@[simp] theorem byteBits_length (b : Byte) : (byteBits b).length = 8 := by simp [byteBits]

@[simp] theorem laneBits_nil : laneBits [] = [] := rfl

@[simp] theorem laneBits_cons (b : Byte) (d : Lanes) : laneBits (b :: d) = byteBits b ++ laneBits d := by
  simp [laneBits]

@[simp] theorem laneBits_append (d e : Lanes) : laneBits (d ++ e) = laneBits d ++ laneBits e := by
  simp [laneBits]

@[simp] theorem laneBits_length (d : Lanes) : (laneBits d).length = 8 * d.length := by
  induction d with
  | nil => rfl
  | cons b d ih => simp [ih]; omega

@[simp] theorem subWord_length (d : Lanes) (k : Nat) : (subWord d k).length = min (k + 1) d.length := by
  simp [subWord]

/-- The top lane's slice of a word of the port's width is the word. -/
theorem subWord_top {dwb : Nat} {d : Lanes} (hd : d.length = dwb) (h : 1 ≤ dwb) : subWord d (dwb - 1) = d := by
  have : dwb - 1 + 1 = d.length := by omega
  simp [subWord, this]

@[simp] theorem oneHot_length (dwb k : Nat) : (oneHot dwb k).length = dwb := by simp [oneHot]

@[simp] theorem noLanes_length (dwb : Nat) : (noLanes dwb).length = dwb := by simp [noLanes]

@[simp] theorem chunk_length (dwb : Nat) (v : Crc) (i : Nat) : (chunk dwb v i).length = dwb := by simp [chunk]

/-- A set position of a mask read from position `n` lies from `n` to below `n` plus the mask's length. -/
theorem setLanesFrom_mem {m : LaneMask} {n k : Nat} (h : k ∈ setLanesFrom n m) : n ≤ k ∧ k < n + m.length := by
  induction m generalizing n with
  | nil => simp [setLanesFrom] at h
  | cons b m ih =>
    have step : k ∈ setLanesFrom (n + 1) m → n ≤ k ∧ k < n + (b :: m).length := fun h' => by
      have := ih h'
      simp only [List.length_cons]
      omega
    cases b with
    | false => exact step (by simpa [setLanesFrom] using h)
    | true =>
      rcases List.mem_cons.1 (by simpa [setLanesFrom] using h) with rfl | h'
      · simp only [List.length_cons]; omega
      · exact step h'

/-- How many positions a mask sets is its number of set bits. -/
theorem setLanesFrom_length (n : Nat) (m : LaneMask) : (setLanesFrom n m).length = m.count true := by
  induction m generalizing n with
  | nil => rfl
  | cons b m ih => cases b <;> simp [setLanesFrom, ih]

/-- The selected lane is a lane of the port. -/
theorem laneSel_lt {dwb k : Nat} {m : LaneMask} (hm : m.length = dwb) (hd : 1 ≤ dwb) (h : laneSel dwb m = some k) :
    k < dwb := by
  unfold laneSel at h
  split at h
  · simp only [Option.some.injEq] at h; omega
  next k' heq =>
    simp only [Option.some.injEq] at h
    have := setLanesFrom_mem (m := m) (n := 0) (k := k') (by unfold setLanes at heq; simp [heq])
    omega
  · simp at h

/-! The engine. -/

@[simp] theorem engine_nil (s : Crc) : engine s [] = s := rfl

@[simp] theorem engine_cons (s : Crc) (b : Bool) (d : List Bool) : engine s (b :: d) = engine (crcStep s b) d := rfl

/-! Banks. -/

@[simp] theorem bankReset_length (dwb : Nat) : (bankReset dwb).length = dwb := by simp [bankReset]

@[simp] theorem bankUpdate_length (dwb : Nat) (crc : List Crc) (d : Lanes) : (bankUpdate dwb crc d).length = dwb := by
  simp [bankUpdate]

@[simp] theorem bankHold_eq (crc : List Crc) : bankHold crc = crc := rfl

theorem laneReg_bankReset {dwb k : Nat} (h : k < dwb) : laneReg (bankReset dwb) k = Config.init := by
  simp [laneReg, bankReset, List.getD_eq_getElem?_getD, h]

theorem laneReg_bankUpdate {dwb k : Nat} (crc : List Crc) (d : Lanes) (h : k < dwb) :
    laneReg (bankUpdate dwb crc d) k = laneNext dwb crc d k := by
  simp [laneReg, bankUpdate, List.getD_eq_getElem?_getD, h]

/-! The buffer. -/

@[simp] theorem push_length (b : List Element) (e : Element) : (push b e).length = b.length + 1 := by simp [push]

@[simp] theorem pop_length (b : List Element) : (pop b).length = b.length - 1 := by simp [pop]

theorem mem_push {b : List Element} {e x : Element} : x ∈ push b e ↔ x ∈ b ∨ x = e := by simp [push]

theorem mem_of_mem_pop {b : List Element} {x : Element} (h : x ∈ pop b) : x ∈ b := List.mem_of_mem_tail h

/-! Widths. -/

theorem pipelineAdmitted_pos {dwb : Nat} (h : pipelineAdmitted dwb = true) : 1 ≤ dwb := by
  simp [pipelineAdmitted] at h
  omega

/-- An admitted width has at least one trailer element, and the lanes of the trailer are four bytes. -/
theorem ratio_mul {dwb : Nat} (h : pipelineAdmitted dwb = true) : dwb * Config.ratio dwb = 4 := by
  have : dwb = 1 ∨ dwb = 2 ∨ dwb = 4 := by simpa [pipelineAdmitted, or_assoc] using h
  rcases this with rfl | rfl | rfl <;> rfl

theorem ratio_pos {dwb : Nat} (h : pipelineAdmitted dwb = true) : 1 ≤ Config.ratio dwb := by
  have := ratio_mul h
  rcases Nat.eq_zero_or_pos (Config.ratio dwb) with h0 | h0
  · simp [h0] at this
  · exact h0

theorem freePayload_wf (dwb draw : Nat) : (freePayload dwb draw).wf dwb = true := by simp [freePayload, Element.wf]

/-! The shared ends: an operation's effect where the width is admitted and the inputs fit, else a refusal. -/

variable {s t : State}

theorem onUnit_next_iff {crc : List Crc} {o : CycleOut} :
    onUnit s crc o = .next t ↔
      (unitAdmitted s.params.unitDwb = true ∧ s.inputs.unit.wf s.params.unitDwb = true) ∧ t = s.setUnit crc o := by
  unfold onUnit
  split
  next h =>
    split
    next h2 => rw [Host.Outcome.next.injEq]; exact ⟨fun e => ⟨⟨h, h2⟩, e.symm⟩, fun e => e.2.symm⟩
    next h2 => exact ⟨fun e => by simp at e, fun e => absurd e.1.2 h2⟩
  next h => exact ⟨fun e => by simp at e, fun e => absurd e.1.1 h⟩

theorem onInserter_next_iff {i : Inserter} {o : StreamOut} :
    onInserter s i o = .next t ↔
      (pipelineAdmitted s.params.insDwb = true ∧ s.inputs.ins.wf s.params.insDwb = true) ∧ t = s.setIns i o := by
  unfold onInserter
  split
  next h =>
    split
    next h2 => rw [Host.Outcome.next.injEq]; exact ⟨fun e => ⟨⟨h, h2⟩, e.symm⟩, fun e => e.2.symm⟩
    next h2 => exact ⟨fun e => by simp at e, fun e => absurd e.1.2 h2⟩
  next h => exact ⟨fun e => by simp at e, fun e => absurd e.1.1 h⟩

theorem onChecker_next_iff {c : Checker} {o : StreamOut} {p : Bool} :
    onChecker s c o p = .next t ↔
      (pipelineAdmitted s.params.chkDwb = true ∧ s.inputs.chk.wf s.params.chkDwb = true) ∧ t = s.setChk c o p := by
  unfold onChecker
  split
  next h =>
    split
    next h2 => rw [Host.Outcome.next.injEq]; exact ⟨fun e => ⟨⟨h, h2⟩, e.symm⟩, fun e => e.2.symm⟩
    next h2 => exact ⟨fun e => by simp at e, fun e => absurd e.1.2 h2⟩
  next h => exact ⟨fun e => by simp at e, fun e => absurd e.1.1 h⟩

theorem onUnit_ne_fault {crc : List Crc} {o : CycleOut} {r : Fault} : onUnit s crc o ≠ .fault r := by
  unfold onUnit; split <;> (try split) <;> simp

theorem onInserter_ne_fault {i : Inserter} {o : StreamOut} {r : Fault} : onInserter s i o ≠ .fault r := by
  unfold onInserter; split <;> (try split) <;> simp

theorem onChecker_ne_fault {c : Checker} {o : StreamOut} {p : Bool} {r : Fault} : onChecker s c o p ≠ .fault r := by
  unfold onChecker; split <;> (try split) <;> simp

end Sys2Proof.Machine
end

