-- ==== Sys2Proof/Laws/PerInstr.lean ====
section
/-! SUPPORT. Statements about every operation as syntax, one lemma per constructor. -/

namespace Sys2Proof.Laws.EncodeWord

/-- The encoder's word for an operation is a legal decode word, and an instance whose widths are all admitted, with a
trailer of more than one element, has the operation. -/
def Statement (i : Instr) : Prop := (encode i).wf = true ∧ Instr.wf ⟨4, 1, 1, .powerOnOnly⟩ i = true

theorem engNext : Statement .engNext := ⟨by decide, by decide⟩
theorem unitValue : Statement .unitValue := ⟨by decide, by decide⟩
theorem unitError : Statement .unitError := ⟨by decide, by decide⟩
theorem unitReset : Statement .unitReset := ⟨by decide, by decide⟩
theorem unitUpdate : Statement .unitUpdate := ⟨by decide, by decide⟩
theorem unitHold : Statement .unitHold := ⟨by decide, by decide⟩
theorem insIdleWait : Statement .insIdleWait := ⟨by decide, by decide⟩
theorem insIdleStart : Statement .insIdleStart := ⟨by decide, by decide⟩
theorem insCopyWait : Statement .insCopyWait := ⟨by decide, by decide⟩
theorem insCopyStall : Statement .insCopyStall := ⟨by decide, by decide⟩
theorem insCopyXfer : Statement .insCopyXfer := ⟨by decide, by decide⟩
theorem insCopyLast : Statement .insCopyLast := ⟨by decide, by decide⟩
theorem insAppendStall : Statement .insAppendStall := ⟨by decide, by decide⟩
theorem insAppendChunk : Statement .insAppendChunk := ⟨by decide, by decide⟩
theorem insAppendFinal : Statement .insAppendFinal := ⟨by decide, by decide⟩
theorem chkReset : Statement .chkReset := ⟨by decide, by decide⟩
theorem chkWait : Statement .chkWait := ⟨by decide, by decide⟩
theorem chkFill : Statement .chkFill := ⟨by decide, by decide⟩
theorem chkFillLast : Statement .chkFillLast := ⟨by decide, by decide⟩
theorem chkStall : Statement .chkStall := ⟨by decide, by decide⟩
theorem chkPass : Statement .chkPass := ⟨by decide, by decide⟩
theorem chkPassLast : Statement .chkPassLast := ⟨by decide, by decide⟩

end Sys2Proof.Laws.EncodeWord
end

