-- ==== Sys2Proof/Laws/Step.lean ====
section
/-! SUPPORT. What a step can do, said once: it runs the decoded operation and ends the cycle; and the decode word of a
cycle, component by component. -/

namespace Sys2Proof.Machine

variable {s t : State}

/-- A step that answers a next state ran the decoded operation and ended the cycle. -/
theorem step_next (h : step s = .next t) :
    ∃ i u, decode (cycleWord s) = some i ∧ exec i s = .next u ∧ t = endCycle u := by
  unfold step at h
  split at h
  · simp at h
  next i hi =>
    split at h
    next u hu => exact ⟨i, u, hi, hu, by simpa using h.symm⟩
    · simp at h
    · simp at h

/-- The other direction: a decoded operation that answers a next state is what the step does. -/
theorem step_of_exec {i : Instr} {u : State} (hi : decode (cycleWord s) = some i) (hu : exec i s = .next u) :
    step s = .next (endCycle u) := by simp [step, hi, hu]

theorem cycleWord_comb {p : CombPort} (h : s.inputs.sel = .comb p) : cycleWord s = .comb p := by simp [cycleWord, h]

theorem cycleWord_unit (h : s.inputs.sel = .unit) :
    cycleWord s = .unitctl (packUnitctl s.inputs.unit.reset s.inputs.unit.enable) := by simp [cycleWord, h]

theorem cycleWord_inserter (h : s.inputs.sel = .inserter) : cycleWord s = .insdec (insWord s) := by simp [cycleWord, h]

theorem cycleWord_checker (h : s.inputs.sel = .checker) : cycleWord s = .chkdec (chkWord s) := by simp [cycleWord, h]

end Sys2Proof.Machine
end

