-- ==== Sys2Proof/Tests/Slice0.lean ====
section
/-! SUPPORT. The model's own tests: smoke tests of the checks, decoding of words written out from the spec's fields,
one or two cycles of every operation against the spec's vectors and programs (95_test_vectors), and for every obligation
with hypotheses a state that meets them. -/

namespace Sys2Proof.Tests

open Sys2Proof.Machine Sys2Proof.Safety

/-! Small states. -/

def inst (u d : Nat) : Params := ⟨u, d, d, .powerOnOnly⟩

def el (data : Lanes) (last : Bool) (be : LaneMask) (error : Bool) : Element := ⟨data, last, be, error⟩

/-- The Inserter's coming cycle. -/
def insAt (d : Nat) (i : Inserter) (x : StreamIn) : State :=
  let s := State.resetOf (inst 4 d) (noLanes d) []
  { s with ins := i, inputs := { s.inputs with sel := .inserter, ins := x } }

/-- The Checker's coming cycle. -/
def chkAt (d : Nat) (c : Checker) (x : StreamIn) : State :=
  let s := State.resetOf (inst 4 d) (noLanes d) []
  { s with chk := c, inputs := { s.inputs with sel := .checker, chk := x } }

/-- The standalone unit's coming cycle. -/
def unitAt (crc : List Crc) (x : UnitIn) (sel : Clocked) : State :=
  let s := State.resetOf (inst crc.length 1) [false] []
  { s with unit := crc, inputs := { s.inputs with sel := sel, unit := x } }

/-- The engine's coming cycle. -/
def engAt (r : Crc) (d : List Bool) : State :=
  let s := State.reset
  { s with inputs := { s.inputs with sel := .comb .engNext, engine := ⟨r, d⟩ } }

/-- The state a step answers. -/
def after (s : State) : Option State :=
  match step s with
  | .next t => some t
  | _ => none

def refusal (s : State) : Option Refusal :=
  match step s with
  | .refused r => some r
  | _ => none

/-! Smoke tests of the checks: an ill-formed term that each check refuses. -/

theorem smoke_pipeline_width_24 : pipelineAdmitted 3 = false := by decide
theorem smoke_unit_without_lanes : unitAdmitted 0 = false := by decide
theorem smoke_params : Params.wf ⟨1, 4, 8, .powerOnOnly⟩ = false := by decide
theorem smoke_element_short_data : Element.wf 2 (el [0#8] true [true, false] false) = false := by decide
theorem smoke_element_wide_mask : Element.wf 1 (el [0#8] true [true, false] false) = false := by decide
theorem smoke_engine_no_bits : EngineIn.wf ⟨0#32, []⟩ = false := by decide
theorem smoke_unit_input : UnitIn.wf 4 ⟨false, true, [1#8], noLanes 4⟩ = false := by decide
theorem smoke_stream_input : StreamIn.wf 2 ⟨false, zeroElement 1, true⟩ = false := by decide
theorem smoke_inputs : Inputs.wf (inst 4 2) (idleInputs (inst 4 1) .inserter) = false := by decide
theorem smoke_chunk_at_32 : Instr.wf (inst 4 4) .insAppendChunk = false := by decide
theorem smoke_operation_of_wide_checker : Instr.wf ⟨1, 1, 8, .powerOnOnly⟩ .chkReset = false := by decide
theorem smoke_insdec_s11 : DecodeWord.wf (.insdec 0b11_0_0_0_0#6) = false := by decide
theorem smoke_chkdec_s11 : DecodeWord.wf (.chkdec 0b11_1_1_1_1#6) = false := by decide
theorem smoke_step_refuses_24 : refusal (insAt 3 ⟨.idle, 0, noLanes 3, []⟩ (idleStream 3)) = some .unadmittedWidth := by
  decide +kernel
theorem smoke_step_refuses_short_element :
    refusal (insAt 2 ⟨.copy, 0, noLanes 2, bankReset 2⟩ ⟨true, zeroElement 1, true⟩) = some .illFormedInput := by
  decide +kernel
theorem smoke_step_refuses_empty_word : refusal (engAt 0#32 []) = some .illFormedInput := by decide +kernel

/-! Decoding: words written out field by field, {reset, enable} (R72), {s, v, l, r, c} (R73, R74), {s, v, l, r, f} (R75,
R76), with bits the row leaves free set. -/

theorem decode_engNext : decode (.comb .engNext) = some .engNext := rfl
theorem decode_unitValue : decode (.comb .unitValue) = some .unitValue := rfl
theorem decode_unitError : decode (.comb .unitError) = some .unitError := rfl
theorem decode_unitReset : decode (.unitctl 0b11#2) = some .unitReset := by decide
theorem decode_unitUpdate : decode (.unitctl 0b01#2) = some .unitUpdate := by decide
theorem decode_unitHold : decode (.unitctl 0b00#2) = some .unitHold := by decide
theorem decode_insIdleWait : decode (.insdec 0b00_0_1_1_1#6) = some .insIdleWait := by decide
theorem decode_insIdleStart : decode (.insdec 0b00_1_0_1_0#6) = some .insIdleStart := by decide
theorem decode_insCopyWait : decode (.insdec 0b01_0_1_0_1#6) = some .insCopyWait := by decide
theorem decode_insCopyStall : decode (.insdec 0b01_1_1_0_1#6) = some .insCopyStall := by decide
theorem decode_insCopyXfer : decode (.insdec 0b01_1_0_1_1#6) = some .insCopyXfer := by decide
theorem decode_insCopyLast : decode (.insdec 0b01_1_1_1_0#6) = some .insCopyLast := by decide
theorem decode_insAppendStall : decode (.insdec 0b10_1_1_0_1#6) = some .insAppendStall := by decide
theorem decode_insAppendChunk : decode (.insdec 0b10_1_0_1_0#6) = some .insAppendChunk := by decide
theorem decode_insAppendFinal : decode (.insdec 0b10_0_1_1_1#6) = some .insAppendFinal := by decide
theorem decode_chkReset : decode (.chkdec 0b10_1_0_1_0#6) = some .chkReset := by decide
theorem decode_chkWait : decode (.chkdec 0b01_0_0_1_1#6) = some .chkWait := by decide
theorem decode_chkFill : decode (.chkdec 0b01_1_0_1_0#6) = some .chkFill := by decide
theorem decode_chkFillLast : decode (.chkdec 0b00_1_1_0_0#6) = some .chkFillLast := by decide
theorem decode_chkStall : decode (.chkdec 0b01_1_1_0_1#6) = some .chkStall := by decide
theorem decode_chkPass : decode (.chkdec 0b01_1_0_1_1#6) = some .chkPass := by decide
theorem decode_chkPassLast : decode (.chkdec 0b01_1_1_1_1#6) = some .chkPassLast := by decide
theorem decode_insdec_s11 : decode (.insdec 0b11_1_0_1_0#6) = none := by decide
theorem decode_chkdec_s11 : decode (.chkdec 0b11_0_0_0_0#6) = none := by decide
theorem decodeTableWord_update : decodeTableWord 8 0x01 = some .unitUpdate := by decide +kernel
theorem decodeTableWord_last : decodeTableWord 8 0x1E = some .insCopyLast := by decide +kernel
theorem decodeTableWord_pass : decodeTableWord 8 0x0B = some .chkPass := by decide +kernel
theorem decodeTableWord_s11 : decodeTableWord 8 0x30 = none := by decide +kernel
theorem withFetchWord_runs_append_final :
    decode (cycleWord (State.reset.withFetchWord 8 0x23)) = some .insAppendFinal := by decide +kernel
theorem withFetchWord_runs_pass_last :
    decode (cycleWord (State.reset.withFetchWord 8 0x0F)) = some .chkPassLast := by decide +kernel

/-! The engine: vectors E-1 and E-16. -/

theorem test_engNext_E1 :
    (after (engAt 0xFFFFFFFF#32 (byteBits 0x01#8))).map (·.out) = some (.engine 0x27045F5A#32) := by decide +kernel
theorem test_engNext_E16 :
    (after (engAt 0x12345678#32 (laneBits [0xF0#8, 0xDE#8, 0xBC#8, 0x9A#8]))).map (·.out) =
      some (.engine 0xD6278CCA#32) := by decide +kernel

/-! The unit: vectors U-4, U-5, U-6, U-7, U-9, U-14. -/

def u4 : List Crc := [0x27045F5A#32, 0xB6BDCC92#32, 0x47FEC255#32, 0x4C20C392#32]

theorem test_unitReset_U14 :
    (after (unitAt [0x12345678#32] ⟨true, true, [0x07#8], [false]⟩ .unit)).map (·.unit) = some [0xFFFFFFFF#32] := by
  decide +kernel
theorem test_unitUpdate_U4 :
    (after (unitAt (bankReset 4) ⟨false, true, [0x01#8, 0x02#8, 0x03#8, 0x04#8], noLanes 4⟩ .unit)).map (·.unit) =
      some u4 := by decide +kernel
theorem test_unitHold_U15 :
    (after (unitAt u4 ⟨false, false, [0xCD#8, 0xFB#8, 0x3C#8, 0xB6#8], oneHot 4 3⟩ .unit)).map (fun t => (t.unit, t.out)) =
      some (u4, .unit 0xB63CFBCD#32 false) := by decide +kernel
theorem test_unitValue_U5_lane1 :
    (after (unitAt u4 ⟨false, false, List.replicate 4 0#8, oneHot 4 1⟩ (.comb .unitValue))).map (·.out) =
      some (.unitValue 0xB6CC4292#32) := by decide +kernel
theorem test_unitError_U6 :
    (after (unitAt u4 ⟨false, false, [0xCD#8, 0xFB#8, 0x3C#8, 0xB6#8], oneHot 4 3⟩ (.comb .unitError))).map (·.out) =
      some (.unitError false) := by decide +kernel
theorem test_unitError_U7 :
    (after (unitAt u4 ⟨false, false, [0xCD#8, 0xFB#8, 0x3C#8, 0xB6#8], oneHot 4 0⟩ (.comb .unitError))).map (·.out) =
      some (.unitError true) := by decide +kernel

/-! The Inserter: programs P1, P4, P6, P9. -/

theorem test_insIdleWait :
    (after (insAt 1 ⟨.idle, 0, [true], [0x4C20C392#32]⟩ ⟨false, zeroElement 1, true⟩)).map (·.ins) =
      some ⟨.idle, 0, [true], [0xFFFFFFFF#32]⟩ := by decide +kernel
theorem test_insIdleStart_P9 :
    (after (insAt 1 ⟨.idle, 0, [true], [0x215A7FD8#32]⟩ ⟨true, el [0x55#8] false [false] false, true⟩)).map (·.ins) =
      some ⟨.copy, 0, [true], [0xFFFFFFFF#32]⟩ := by decide +kernel
theorem test_insCopyWait :
    (after (insAt 1 ⟨.copy, 0, [false], [0x27045F5A#32]⟩ ⟨false, zeroElement 1, true⟩)).map (·.ins) =
      some ⟨.copy, 0, [false], [0x27045F5A#32]⟩ := by decide +kernel
theorem test_insCopyStall_P4 :
    (after (insAt 4 ⟨.copy, 0, noLanes 4, u4⟩ ⟨true, el [0x05#8, 0x06#8, 0#8, 0#8] true (oneHot 4 1) false, false⟩)).map
        (fun t => (t.ins.crc, t.out)) =
      some (u4, .inserter ⟨false, true, el [0x05#8, 0x06#8, 0#8, 0#8] false (oneHot 4 1) false⟩) := by decide +kernel
theorem test_insCopyXfer_P1 :
    (after (insAt 1 ⟨.copy, 0, [false], [0xFFFFFFFF#32]⟩ ⟨true, el [0x01#8] false [false] false, true⟩)).map
        (fun t => (t.ins, t.out)) =
      some (⟨.copy, 0, [false], [0x27045F5A#32]⟩, .inserter ⟨true, true, el [0x01#8] false [false] false⟩) := by
  decide +kernel
theorem test_insCopyLast_P4 :
    (after (insAt 4 ⟨.copy, 0, noLanes 4, u4⟩ ⟨true, el [0x05#8, 0x06#8, 0#8, 0#8] true (oneHot 4 1) false, true⟩)).map
        (·.ins) =
      some ⟨.append, 0, oneHot 4 1, [0xD0662F1D#32, 0xDB11907E#32, 0x2B40FE88#32, 0xF396F581#32]⟩ := by decide +kernel
theorem test_insAppendStall :
    (after (insAt 1 ⟨.append, 0, [true], [0x4C20C392#32]⟩ ⟨true, zeroElement 1, false⟩)).map (fun t => (t.ins, t.out)) =
      some (⟨.append, 0, [true], [0x4C20C392#32]⟩, .inserter ⟨false, true, el [0xCD#8] false [false] false⟩) := by
  decide +kernel
theorem test_insAppendChunk_P6 :
    (after (insAt 2 ⟨.append, 0, oneHot 2 0, [0x47FEC255#32, 0xD4037572#32]⟩ ⟨true, zeroElement 2, true⟩)).map
        (fun t => (t.ins.cnt, t.out)) =
      some (1, .inserter ⟨false, true, el [0x1D#8, 0x80#8] false [false, false] false⟩) := by decide +kernel
theorem test_insAppendFinal_P1 :
    (after (insAt 1 ⟨.append, 3, [true], [0x4C20C392#32]⟩ ⟨true, zeroElement 1, true⟩)).map (fun t => (t.ins, t.out)) =
      some (⟨.idle, 0, [true], [0x4C20C392#32]⟩, .inserter ⟨false, true, el [0xB6#8] true [true] false⟩) := by
  decide +kernel

/-! The Checker: programs P2, P3, P5, P7, P8. -/

def p7 : List Element :=
  [el [0x04#8] false [true] false, el [0xCD#8] false [false] false, el [0xFB#8] false [false] false,
   el [0x3C#8] false [false] true]

/-- The register before the last element of P2. -/
def beforeB6 : Crc := fold 0xFFFFFFFF#32 [0x01#8, 0x02#8, 0x03#8, 0x04#8, 0xCD#8, 0xFB#8, 0x3C#8]

theorem test_chkReset :
    (after (chkAt 1 ⟨.reset, p7, [0xC704DD7B#32]⟩ ⟨true, zeroElement 1, true⟩)).map (·.chk) =
      some ⟨.idle, [], [0xFFFFFFFF#32]⟩ := by decide +kernel
theorem test_chkWait :
    (after (chkAt 1 ⟨.active, p7, [beforeB6]⟩ ⟨false, zeroElement 1, true⟩)).map (·.chk) =
      some ⟨.active, p7, [beforeB6]⟩ := by decide +kernel
theorem test_chkFill_P2 :
    (after (chkAt 1 ⟨.idle, [], [0xFFFFFFFF#32]⟩ ⟨true, el [0x01#8] false [false] false, false⟩)).map (·.chk) =
      some ⟨.active, [el [0x01#8] false [false] false], [0x27045F5A#32]⟩ := by decide +kernel
theorem test_chkFillLast_P8 :
    (after (chkAt 1 ⟨.active, p7.take 2, [0xB6BDCC92#32]⟩ ⟨true, el [0x03#8] true [true] false, true⟩)).map
        (fun t => (t.chk.st, t.chk.buf.length, t.chk.crc, pulses t.out)) =
      some (.reset, 3, [0x47FEC255#32], false) := by decide +kernel
theorem test_chkStall_K8 :
    (after (chkAt 1 ⟨.active, p7, [beforeB6]⟩ ⟨true, el [0xB6#8] true [true] false, false⟩)).map (fun t => (t.chk, t.out)) =
      some (⟨.active, p7, [beforeB6]⟩, .checker ⟨false, true, el [0x04#8] true [true] true⟩ false) := by decide +kernel
theorem test_chkPass_P5 :
    (after (chkAt 2 ⟨.active, [el [0x01#8, 0x02#8] false [false, false] false, el [0x03#8, 0x04#8] false [false, true] false],
        [0x47FEC255#32, 0x4C20C392#32]⟩ ⟨true, el [0xCD#8, 0xFB#8] false [false, false] false, true⟩)).map
        (fun t => (t.chk.buf, t.out)) =
      some ([el [0x03#8, 0x04#8] false [false, true] false, el [0xCD#8, 0xFB#8] false [false, false] false],
        .checker ⟨true, true, el [0x01#8, 0x02#8] false [false, false] false⟩ false) := by decide +kernel
theorem test_chkPassLast_P7 :
    (after (chkAt 1 ⟨.active, p7, [beforeB6]⟩ ⟨true, el [0xB6#8] true [true] false, true⟩)).map
        (fun t => (t.chk.st, t.chk.crc, t.out)) =
      some (.reset, [0xC704DD7B#32], .checker ⟨true, true, el [0x04#8] true [true] true⟩ false) := by decide +kernel
theorem test_chkPassLast_K2 :
    (after (chkAt 4 ⟨.active, [el [0x01#8, 0x02#8, 0x03#8, 0x04#8] false (noLanes 4) false], u4⟩
        ⟨true, el [0xCD#8, 0xFB#8, 0x3C#8, 0xB6#8] true (oneHot 4 0) false, true⟩)).map (·.out) =
      some (.checker ⟨true, true, el [0x01#8, 0x02#8, 0x03#8, 0x04#8] true (noLanes 4) true⟩ true) := by decide +kernel

/-! The stimulus notation (R85). -/

theorem test_packet_six_bytes :
    packet 4 [0x01#8, 0x02#8, 0x03#8, 0x04#8, 0x05#8, 0x06#8] =
      [el [0x01#8, 0x02#8, 0x03#8, 0x04#8] false (noLanes 4) false, el [0x05#8, 0x06#8, 0#8, 0#8] true (oneHot 4 1) false] := by
  decide +kernel

/-! For every obligation with hypotheses, a state and operands that meet them all. -/

def nothing (d : Nat) (ready : Bool) : StreamIn := ⟨false, zeroElement d, ready⟩
def offered (e : Element) (ready : Bool) : StreamIn := ⟨true, e, ready⟩
def eMid : Element := el [0x01#8] false [false] false
def eEnd : Element := el [0x04#8] true [true] true

theorem wit_EngNextFoldsDataBits : 1 ≤ (engAt 0x80000000#32 [true]).inputs.engine.data.length := by decide
theorem wit_ColumnTablesGiveEngine_low : (List.replicate 8 true).length ∈ [8, 16, 24, 32, 40, 48, 56, 64] := by decide
theorem wit_ColumnTablesGiveEngine_high : (List.replicate 64 true).length ∈ [8, 16, 24, 32, 40, 48, 56, 64] := by decide
theorem wit_EquationsForEightBits : (List.replicate 8 true).length = 8 := by decide

theorem wit_LaneSelector_zero : 1 ≤ 1 ∧ (noLanes 1).length = 1 ∧ (noLanes 1).count true = 0 := by decide
theorem wit_LaneSelector_zero_wide : 1 ≤ 8 ∧ (noLanes 8).length = 8 ∧ (noLanes 8).count true = 0 := by decide
theorem wit_LaneSelector_bottom : 1 ≤ 4 ∧ (oneHot 4 0).length = 4 ∧ 0 < 4 ∧ [true, false, false, false] = oneHot 4 0 := by
  decide
theorem wit_LaneSelector_top : 1 ≤ 4 ∧ (oneHot 4 3).length = 4 ∧ 3 < 4 ∧ [false, false, false, true] = oneHot 4 3 := by
  decide
theorem wit_LaneSelector_multiHot :
    1 ≤ 4 ∧ [true, false, true, false].length = 4 ∧ 2 ≤ [true, false, true, false].count true := by decide
theorem wit_LaneNextStartsFromWidestLane : u4[4 - 1]? = some 0x4C20C392#32 ∧ 3 < 4 ∧ 0 < 4 := by decide

def unitS (r e : Bool) (be : LaneMask) : State := unitAt u4 ⟨r, e, [0xCD#8, 0xFB#8, 0x3C#8, 0xB6#8], be⟩ .unit

theorem wit_UnitResetResult :
    UnitCycle (unitS true true (oneHot 4 0)) true true ∧ laneSel 4 (oneHot 4 0) = some 0 ∧
      u4[0]? = some 0x27045F5A#32 ∧ u4[4 - 1]? = some 0x4C20C392#32 :=
  ⟨⟨⟨by decide, by decide⟩, rfl, rfl, rfl⟩, by decide, rfl, rfl⟩
theorem wit_UnitResetResult_after : (noLanes 4).length = 4 ∧ 1 ≤ 4 ∧ laneSel 4 (noLanes 4) = some 3 := by decide
theorem wit_UnitUpdateResult :
    UnitCycle (unitS false true [true, true, false, false]) false true ∧
      (unitS false true [true, true, false, false]).unit[4 - 1]? = some 0x4C20C392#32 :=
  ⟨⟨⟨by decide, by decide⟩, rfl, rfl, rfl⟩, rfl⟩
theorem wit_UnitUpdateResult_ports :
    UnitCycle (unitS false true (oneHot 4 0)) false true ∧ laneSel 4 (oneHot 4 0) = some 0 ∧
      u4[0]? = some 0x27045F5A#32 ∧ (unitS false true (oneHot 4 0)).unit[4 - 1]? = some 0x4C20C392#32 :=
  ⟨⟨⟨by decide, by decide⟩, rfl, rfl, rfl⟩, by decide, rfl, rfl⟩
theorem wit_UnitHoldResult :
    UnitCycle (unitS false false (oneHot 4 3)) false false ∧ laneSel 4 (oneHot 4 3) = some 3 ∧
      u4[3]? = some 0x4C20C392#32 :=
  ⟨⟨⟨by decide, by decide⟩, rfl, rfl, rfl⟩, by decide, rfl⟩
theorem wit_UnitValueResult :
    UnitReady (unitS false false (oneHot 4 0)) ∧ laneSel 4 (oneHot 4 0) = some 0 ∧ u4[0]? = some 0x27045F5A#32 :=
  ⟨⟨by decide, by decide⟩, by decide, rfl⟩
theorem wit_UnitValueResult_multiHot :
    UnitReady (unitS false false [true, false, true, false]) ∧ laneSel 4 [true, false, true, false] = none :=
  ⟨⟨by decide, by decide⟩, by decide⟩
theorem wit_UnitErrorResult :
    UnitReady (unitS false false (noLanes 4)) ∧ laneSel 4 (noLanes 4) = some 3 ∧ u4[4 - 1]? = some 0x4C20C392#32 :=
  ⟨⟨by decide, by decide⟩, by decide, rfl⟩
theorem wit_BankHoldsPartialWordCrcs :
    3 < 4 ∧ (∀ x ∈ [[0x01#8, 0x02#8, 0x03#8, 0x04#8]], x.length = 4) ∧ [0x05#8, 0x06#8, 0#8, 0#8].length = 4 := by decide

def insS (st : InsState) (cnt : Nat) (x : StreamIn) : State := insAt 1 ⟨st, cnt, [true], [0x4C20C392#32]⟩ x

theorem ready_insS (st : InsState) (cnt : Nat) (v r : Bool) (e : Element) (h : e.wf 1 = true) :
    InsCycle (insS st cnt ⟨v, e, r⟩) st := ⟨⟨rfl, h⟩, rfl, rfl⟩

theorem wit_InsIdleWaitResult :
    InsCycle (insS .idle 0 (nothing 1 true)) .idle ∧ (insS .idle 0 (nothing 1 true)).inputs.ins.sinkValid = false :=
  ⟨ready_insS _ _ _ _ _ (by decide), rfl⟩
theorem wit_InsIdleStartResult :
    InsCycle (insS .idle 0 (offered eEnd true)) .idle ∧ (insS .idle 0 (offered eEnd true)).inputs.ins.sinkValid = true :=
  ⟨ready_insS _ _ _ _ _ (by decide), rfl⟩
theorem wit_InsCopyWaitResult :
    InsCycle (insS .copy 0 (nothing 1 true)) .copy ∧ (insS .copy 0 (nothing 1 true)).inputs.ins.sinkValid = false :=
  ⟨ready_insS _ _ _ _ _ (by decide), rfl⟩
theorem wit_InsCopyStallResult :
    InsCycle (insS .copy 0 (offered eEnd false)) .copy ∧
      (insS .copy 0 (offered eEnd false)).inputs.ins.sinkValid = true ∧
      (insS .copy 0 (offered eEnd false)).inputs.ins.sourceReady = false :=
  ⟨ready_insS _ _ _ _ _ (by decide), rfl, rfl⟩
theorem wit_InsCopyXferResult :
    let s := insS .copy 0 (offered eMid true)
    InsCycle s .copy ∧ s.inputs.ins.sinkValid = true ∧ s.inputs.ins.sink.last = false ∧ s.inputs.ins.sourceReady = true ∧
      s.ins.crc[s.params.insDwb - 1]? = some 0x4C20C392#32 :=
  ⟨ready_insS _ _ _ _ _ (by decide), rfl, rfl, rfl, rfl⟩
theorem wit_InsCopyLastResult :
    let s := insS .copy 0 (offered eEnd true)
    InsCycle s .copy ∧ s.inputs.ins.sinkValid = true ∧ s.inputs.ins.sink.last = true ∧ s.inputs.ins.sourceReady = true ∧
      s.ins.crc[s.params.insDwb - 1]? = some 0x4C20C392#32 :=
  ⟨ready_insS _ _ _ _ _ (by decide), rfl, rfl, rfl, rfl⟩
theorem wit_InsAppendStallResult :
    let s := insS .append 3 (offered eMid false)
    InsCycle s .append ∧ s.inputs.ins.sourceReady = false ∧ laneSel s.params.insDwb s.ins.lbe = some 0 ∧
      s.ins.crc[0]? = some 0x4C20C392#32 :=
  ⟨ready_insS _ _ _ _ _ (by decide), rfl, by decide, rfl⟩
theorem wit_InsAppendChunkResult :
    let s := insS .append 2 (offered eMid true)
    InsCycle s .append ∧ s.inputs.ins.sourceReady = true ∧ s.ins.cnt + 1 < Config.ratio s.params.insDwb ∧
      laneSel s.params.insDwb s.ins.lbe = some 0 ∧ s.ins.crc[0]? = some 0x4C20C392#32 :=
  ⟨ready_insS _ _ _ _ _ (by decide), rfl, by decide, by decide, rfl⟩
theorem wit_InsAppendFinalResult :
    let s := insS .append 3 (nothing 1 true)
    InsCycle s .append ∧ s.inputs.ins.sourceReady = true ∧ s.ins.cnt + 1 = Config.ratio s.params.insDwb ∧
      laneSel s.params.insDwb s.ins.lbe = some 0 ∧ s.ins.crc[0]? = some 0x4C20C392#32 :=
  ⟨ready_insS _ _ _ _ _ (by decide), rfl, by decide, by decide, rfl⟩
theorem wit_InsDrivesUnitAndHandshake :
    ∃ t, (insS .copy 0 (offered eMid true)).inputs.sel = .inserter ∧ step (insS .copy 0 (offered eMid true)) = .next t :=
  ⟨_, rfl, rfl⟩

def chkS (st : ChkState) (buf : List Element) (x : StreamIn) : State := chkAt 1 ⟨st, buf, [beforeB6]⟩ x

theorem ready_chkS (st : ChkState) (buf : List Element) (v r : Bool) (e : Element) (h : e.wf 1 = true)
    (hst : st ≠ .reset) : ChkCycle (chkS st buf ⟨v, e, r⟩) := ⟨⟨rfl, h⟩, rfl, hst⟩

theorem wit_ChkResetResult :
    let s := chkS .reset p7 (offered eMid true)
    ChkReady s ∧ s.inputs.sel = .checker ∧ s.chk.st = .reset := ⟨⟨by decide, by decide⟩, rfl, rfl⟩
theorem wit_ChkWaitResult :
    let s := chkS .active p7 (nothing 1 true)
    ChkCycle s ∧ s.inputs.chk.sinkValid = false := ⟨ready_chkS _ _ _ _ _ (by decide) (by decide), rfl⟩
theorem wit_ChkFillResult :
    let s := chkS .active (p7.take 3) (offered eMid false)
    ChkCycle s ∧ s.inputs.chk.sinkValid = true ∧ s.inputs.chk.sink.last = false ∧
      s.chk.buf.length < Config.ratio s.params.chkDwb ∧ s.chk.crc[s.params.chkDwb - 1]? = some beforeB6 :=
  ⟨ready_chkS _ _ _ _ _ (by decide) (by decide), rfl, rfl, by decide, rfl⟩
theorem wit_ChkFillResult_idle :
    let s := chkS .idle [] (offered eMid true)
    ChkCycle s ∧ s.inputs.chk.sinkValid = true ∧ s.inputs.chk.sink.last = false ∧
      s.chk.buf.length < Config.ratio s.params.chkDwb ∧ s.chk.crc[s.params.chkDwb - 1]? = some beforeB6 :=
  ⟨ready_chkS _ _ _ _ _ (by decide) (by decide), rfl, rfl, by decide, rfl⟩
theorem wit_ChkFillLastResult :
    let s := chkS .idle [] (offered eEnd true)
    ChkCycle s ∧ s.inputs.chk.sinkValid = true ∧ s.inputs.chk.sink.last = true ∧
      s.chk.buf.length < Config.ratio s.params.chkDwb ∧ s.chk.crc[s.params.chkDwb - 1]? = some beforeB6 :=
  ⟨ready_chkS _ _ _ _ _ (by decide) (by decide), rfl, rfl, by decide, rfl⟩
theorem wit_ChkStallResult :
    let s := chkS .active p7 (offered eEnd false)
    ChkCycle s ∧ s.inputs.chk.sinkValid = true ∧ s.inputs.chk.sourceReady = false ∧
      s.chk.buf = el [0x04#8] false [true] false :: p7.tail ∧
      (el [0x04#8] false [true] false :: p7.tail).length = Config.ratio s.params.chkDwb ∧ s.inputs.chk.sink.last = true ∧
      laneSel s.params.chkDwb s.inputs.chk.sink.lastBe = some 0 ∧ s.chk.crc[s.params.chkDwb - 1]? = some beforeB6 :=
  ⟨ready_chkS _ _ _ _ _ (by decide) (by decide), rfl, rfl, rfl, by decide, rfl, by decide, rfl⟩
theorem wit_ChkStallResult_middle : (chkS .active p7 (offered eMid false)).inputs.chk.sink.last = false := rfl
theorem wit_ChkPassResult :
    let s := chkS .active p7 (offered eMid true)
    ChkCycle s ∧ s.inputs.chk.sinkValid = true ∧ s.inputs.chk.sink.last = false ∧ s.inputs.chk.sourceReady = true ∧
      s.chk.buf = el [0x04#8] false [true] false :: p7.tail ∧
      (el [0x04#8] false [true] false :: p7.tail).length = Config.ratio s.params.chkDwb ∧
      s.chk.crc[s.params.chkDwb - 1]? = some beforeB6 :=
  ⟨ready_chkS _ _ _ _ _ (by decide) (by decide), rfl, rfl, rfl, rfl, by decide, rfl⟩
theorem wit_ChkPassLastResult :
    let s := chkS .active p7 (offered eEnd true)
    ChkCycle s ∧ s.inputs.chk.sinkValid = true ∧ s.inputs.chk.sink.last = true ∧ s.inputs.chk.sourceReady = true ∧
      s.chk.buf = el [0x04#8] false [true] false :: p7.tail ∧
      (el [0x04#8] false [true] false :: p7.tail).length = Config.ratio s.params.chkDwb ∧
      s.chk.crc[s.params.chkDwb - 1]? = some beforeB6 ∧ laneSel s.params.chkDwb s.inputs.chk.sink.lastBe = some 0 :=
  ⟨ready_chkS _ _ _ _ _ (by decide) (by decide), rfl, rfl, rfl, rfl, by decide, rfl, by decide⟩
theorem wit_ChkTransitionsAndHandshake :
    ∃ t, (chkS .active p7 (offered eEnd true)).inputs.sel = .checker ∧ step (chkS .active p7 (offered eEnd true)) = .next t :=
  ⟨_, rfl, rfl⟩

/-! Runs of one packet at DW = 32: the shortest a packet contract admits. -/

def w1 : Element := el [0x01#8, 0x02#8, 0x03#8, 0x04#8] true (oneHot 4 3) false
def w1mid : Element := { w1 with last := false }
def w2 : Element := el [0xCD#8, 0xFB#8, 0x3C#8, 0xB6#8] true (oneHot 4 3) false

def insRun : State :=
  let s := State.resetOf (inst 4 4) (noLanes 4) []
  s.load ((w1 :: w1 :: [w1]).map (offerIns s.inputs))
def multiHot : LaneMask := [true, false, true, false]
def w1multi : Element := { w1 with lastBe := multiHot }
def w2multi : Element := { w2 with lastBe := multiHot }
def insRunMulti : State :=
  let s := State.resetOf (inst 4 4) (noLanes 4) []
  s.load ((w1multi :: w1multi :: [w1]).map (offerIns s.inputs))
def chkRunMulti : State :=
  let s := State.resetOf (inst 4 4) (noLanes 4) []
  s.load ((w1mid :: w1mid :: [w2multi]).map (offerChk s.inputs))
def chkRun : State :=
  let s := State.resetOf (inst 4 4) (noLanes 4) []
  s.load ((w1mid :: w1mid :: [w2]).map (offerChk s.inputs))

/-- The trace and the end of a run that does not stop. -/
def played (n : Nat) (s : State) : Trace × State := (run n s).getD ([], s)

theorem wit_InserterPacketContract :
    pipelineAdmitted insRun.params.insDwb = true ∧ insRun.ins.st = .idle ∧ (played 3 insRun).2.ins.st = .idle ∧
      run 3 insRun = some ((played 3 insRun).1, (played 3 insRun).2) ∧ insAccepted (played 3 insRun).1 = [] ++ [w1] ∧
      w1.last = true ∧ laneSel insRun.params.insDwb w1.lastBe = some (insRun.params.insDwb - 1) :=
  ⟨by decide, rfl, by decide +kernel, rfl, by decide +kernel, rfl, by decide⟩
theorem wit_InserterPacketContract_multiHot :
    insRunMulti.ins.st = .idle ∧ (played 3 insRunMulti).2.ins.st = .idle ∧
      run 3 insRunMulti = some ((played 3 insRunMulti).1, (played 3 insRunMulti).2) ∧
      insAccepted (played 3 insRunMulti).1 = [] ++ [w1multi] ∧ laneSel insRunMulti.params.insDwb w1multi.lastBe = none :=
  ⟨rfl, by decide +kernel, rfl, by decide +kernel, by decide⟩
theorem wit_InserterPacketCycleCount :
    let s := State.resetOf (inst 4 4) (noLanes 4) []
    pipelineAdmitted s.params.insDwb = true ∧ s.ins.st = .idle ∧ (∀ e ∈ [w1mid] ++ [w1], e.wf s.params.insDwb = true) ∧
      (∀ e ∈ [w1mid], e.last = false) ∧ w1.last = true := ⟨by decide, rfl, by decide, by decide, rfl⟩
theorem wit_CheckerPacketContract :
    pipelineAdmitted chkRun.params.chkDwb = true ∧ chkRun.chk.st = .reset ∧ (played 3 chkRun).2.chk.st = .reset ∧
      run 3 chkRun = some ((played 3 chkRun).1, (played 3 chkRun).2) ∧
      chkAccepted (played 3 chkRun).1 = [w1mid] ++ [w2] ∧ (∀ e ∈ [w1mid], e.last = false) ∧ w2.last = true ∧
      laneSel chkRun.params.chkDwb w2.lastBe = some 3 :=
  ⟨by decide, rfl, by decide +kernel, rfl, by decide +kernel, by decide, rfl, by decide⟩
theorem wit_CheckerPacketContract_multiHot :
    chkRunMulti.chk.st = .reset ∧ (played 3 chkRunMulti).2.chk.st = .reset ∧
      run 3 chkRunMulti = some ((played 3 chkRunMulti).1, (played 3 chkRunMulti).2) ∧
      chkAccepted (played 3 chkRunMulti).1 = [w1mid] ++ [w2multi] ∧
      laneSel chkRunMulti.params.chkDwb w2multi.lastBe = none :=
  ⟨rfl, by decide +kernel, rfl, by decide +kernel, by decide⟩
theorem wit_CheckerPacketCycleCount :
    let s := State.resetOf (inst 4 4) (noLanes 4) []
    pipelineAdmitted s.params.chkDwb = true ∧ s.chk.st = .reset ∧ (∀ e ∈ [w1mid] ++ [w2], e.wf s.params.chkDwb = true) ∧
      (∀ e ∈ [w1mid], e.last = false) ∧ w2.last = true := ⟨by decide, rfl, by decide, by decide, rfl⟩
theorem wit_AlignedRoundTrip :
    pipelineAdmitted insRun.params.insDwb = true ∧ chkRun.params.chkDwb = insRun.params.insDwb ∧
      insRun.ins.st = .idle ∧ (played 3 insRun).2.ins.st = .idle ∧
      run 3 insRun = some ((played 3 insRun).1, (played 3 insRun).2) ∧ insAccepted (played 3 insRun).1 = [] ++ [w1] ∧
      w1.last = true ∧ laneSel insRun.params.insDwb w1.lastBe = some (insRun.params.insDwb - 1) ∧
      chkRun.chk.st = .reset ∧ (played 3 chkRun).2.chk.st = .reset ∧
      run 3 chkRun = some ((played 3 chkRun).1, (played 3 chkRun).2) ∧
      chkAccepted (played 3 chkRun).1 = insEmitted (played 3 insRun).1 := by
  obtain ⟨h1, h2, h3, h4, h5, h6, h7⟩ := wit_InserterPacketContract
  obtain ⟨_, c2, c3, c4, _⟩ := wit_CheckerPacketContract
  exact ⟨h1, rfl, h2, h3, h4, h5, h6, h7, c2, c3, c4, by decide +kernel⟩
theorem wit_ChainTransfersAgree :
    let s := { State.resetOf (inst 4 4) (noLanes 4) [] with
      ins := ⟨.copy, 0, noLanes 4, bankReset 4⟩, chk := ⟨.idle, [], bankReset 4⟩ }
    s.params.insDwb = s.params.chkDwb ∧ (chainCycle s true w1 true).isSome = true := ⟨rfl, by decide +kernel⟩

theorem wit_DecodeEncodeAgree : decode (.chkdec 0b01_1_1_0_1#6) = some .chkStall := by decide
theorem wit_CycleWordSelectsByCondition :
    (insS .append 3 (nothing 1 true)).inputs.sel = .inserter ∧ (chkS .idle [] (nothing 1 true)).inputs.sel = .checker :=
  ⟨rfl, rfl⟩
theorem wit_StepRunsDecodedOperation :
    ∃ t, decode (cycleWord (insS .copy 0 (offered eMid true))) = some .insCopyXfer ∧
      exec .insCopyXfer (insS .copy 0 (offered eMid true)) = .next t := ⟨_, by decide +kernel, rfl⟩
theorem wit_StepRunsDecodedOperation_refused :
    decode (cycleWord (engAt 0#32 [])) = some .engNext ∧ exec .engNext (engAt 0#32 []) = .refused .illFormedInput :=
  ⟨rfl, rfl⟩
theorem wit_StepAlwaysCompletes : State.reset.params.wf = true ∧ State.reset.inputs.wf State.reset.params = true := by
  decide +kernel
theorem wit_UnadmittedInstancesRefused :
    let a := insAt 3 ⟨.idle, 0, [], []⟩ (idleStream 3)
    let b := chkAt 8 ⟨.reset, [], []⟩ (idleStream 8)
    let c := fun sel => unitAt [] ⟨false, false, [], []⟩ sel
    let d := insAt 4 ⟨.idle, 0, [], []⟩ (idleStream 3)
    (a.inputs.sel = .inserter ∧ a.params.insDwb ∉ [1, 2, 4]) ∧ (b.inputs.sel = .checker ∧ b.params.chkDwb ∉ [1, 2, 4]) ∧
      (∀ sel ∈ [.unit, .comb .unitValue, .comb .unitError], (c sel).inputs.sel = sel ∧ (c sel).params.unitDwb = 0) ∧
      (d.inputs.sel = .inserter ∧ d.params.insDwb ∈ [1, 2, 4] ∧ d.inputs.ins.wf d.params.insDwb = false) := by
  decide +kernel
theorem wit_UnadmittedInstancesRefused_illFormed :
    let b := chkAt 1 ⟨.reset, [], []⟩ (idleStream 2)
    let c := fun sel => unitAt [0#32] ⟨false, false, [0#8, 0#8], [false]⟩ sel
    (b.inputs.sel = .checker ∧ b.params.chkDwb ∈ [1, 2, 4] ∧ b.inputs.chk.wf b.params.chkDwb = false) ∧
      (∀ sel ∈ [.unit, .comb .unitValue, .comb .unitError], (c sel).inputs.sel = sel ∧ (c sel).params.unitDwb ≠ 0 ∧
        (c sel).inputs.unit.wf (c sel).params.unitDwb = false) ∧
      (engAt 0#32 []).inputs.sel = .comb .engNext ∧ (engAt 0#32 []).inputs.engine.data = [] := by
  decide +kernel
theorem wit_reset_isReset : IsReset State.reset :=
  ⟨resetParams, [false], [], [], by decide, rfl, by decide, by simp, rfl⟩
/-- A reset state whose staging buffer is full to its capacity, one element above RATIO. -/
def fullReset : State := State.resetOf resetParams [true] (List.replicate 5 eMid)
theorem wit_InvariantHoldsAtReset : IsReset fullReset ∧ Config.ratio fullReset.params.chkDwb < fullReset.chk.buf.length :=
  ⟨⟨resetParams, [true], List.replicate 5 eMid, [], by decide, rfl, by decide, by decide, rfl⟩, by decide⟩
theorem wit_StepKeepsInvariant : StateInv (insS .copy 0 (offered eMid true)) ∧
    ∃ t, step (insS .copy 0 (offered eMid true)) = .next t := by
  refine ⟨⟨rfl, ⟨rfl, rfl, by decide, fun _ => rfl⟩, rfl, ?_, by decide, ?_, ?_, ?_⟩, _, rfl⟩
  · intro e h; cases h
  · intro _; decide
  · intro h; cases h
  · intro h; cases h
theorem wit_StepKeepsInvariant_checker :
    StateInv { fullReset with inputs := { fullReset.inputs with sel := .checker } } ∧
      ∃ t, step { fullReset with inputs := { fullReset.inputs with sel := .checker } } = .next t := by
  refine ⟨⟨rfl, ⟨rfl, rfl, by decide, fun _ => rfl⟩, rfl, ?_, by decide, ?_, ?_, ?_⟩, _, rfl⟩
  · change ∀ e ∈ List.replicate 5 eMid, e.wf 1 = true
    decide
  · intro h; exact absurd rfl h
  · intro h; cases h
  · intro h; cases h
theorem wit_ParametersNeverChange : ∃ t, step State.reset = .next t := ⟨_, rfl⟩
theorem wit_ComponentsShareNoState :
    let s := insS .copy 0 (offered eMid true)
    let s' := { s with chk := ⟨.active, p7, [0#32]⟩, unit := [] }
    s'.params = s.params ∧ s'.draw = s.draw ∧ s'.ins = s.ins ∧ s'.inputs.ins = s.inputs.ins ∧ s.inputs.sel = .inserter ∧
      s'.inputs.sel = .inserter ∧ ∃ t, step s = .next t := ⟨rfl, rfl, rfl, rfl, rfl, rfl, _, rfl⟩
theorem wit_ComponentsShareNoState_checker :
    let s := chkS .active p7 (offered eEnd true)
    let s' := { s with ins := ⟨.append, 2, [true], [0#32]⟩, unit := [] }
    s'.params = s.params ∧ s'.draw = s.draw ∧ s'.chk = s.chk ∧ s'.inputs.chk = s.inputs.chk ∧ s.inputs.sel = .checker ∧
      s'.inputs.sel = .checker ∧ ∃ t, step s = .next t := ⟨rfl, rfl, rfl, rfl, rfl, rfl, _, rfl⟩
theorem wit_ComponentsShareNoState_unit :
    let s := unitS false true (oneHot 4 3)
    let s' := { s with ins := ⟨.append, 2, [true], [0#32]⟩, chk := ⟨.active, p7, [0#32]⟩ }
    s'.params = s.params ∧ s'.draw = s.draw ∧ s'.unit = s.unit ∧ s'.inputs.unit = s.inputs.unit ∧ s.inputs.sel = .unit ∧
      s'.inputs.sel = .unit ∧ ∃ t, step s = .next t := ⟨rfl, rfl, rfl, rfl, rfl, rfl, _, rfl⟩
theorem wit_ErrorBitsChangeNothingElse : ∃ t, step (chkS .active p7 (offered eEnd true)) = .next t := ⟨_, rfl⟩
theorem wit_StepKeepsAlikeButUnread :
    AlikeButUnread State.reset { State.reset with
      ins := { State.reset.ins with lbe := [true] }, chk := { State.reset.chk with buf := p7 } } ∧
    ∃ t, step State.reset = .next t :=
  ⟨⟨[true], p7, rfl, fun h => (by cases h), fun h => absurd rfl h⟩, _, rfl⟩

end Sys2Proof.Tests
end

section
/-! PROOFS. What an operation can do, said once: it goes through one of the four updates of State, so it writes one
component and the outputs. A step then keeps every field that the updates and the end of the cycle keep. -/

namespace Sys2Proof.Machine

variable {s t : State}

theorem execEngNext_next_iff :
    execEngNext s = .next t ↔
      s.inputs.engine.wf = true ∧ t = s.setOut (.engine (engine s.inputs.engine.state s.inputs.engine.data)) := by
  unfold execEngNext
  split
  next h => rw [Host.Outcome.next.injEq]; exact ⟨fun e => ⟨h, e.symm⟩, fun e => e.2.symm⟩
  next h => exact ⟨fun e => by simp at e, fun e => absurd e.1 h⟩

/-- An operation that answers a next state ends in the update of its component, or of the outputs alone (R13, R21). -/
theorem exec_next_cases {i : Instr} (h : exec i s = .next t) :
    (∃ o, t = s.setOut o) ∨ (∃ crc o, t = s.setUnit crc o) ∨ (∃ ins o, t = s.setIns ins o) ∨
      ∃ chk o pulse, t = s.setChk chk o pulse := by
  cases i with
  | engNext => exact .inl ⟨_, (execEngNext_next_iff.1 h).2⟩
  | unitValue | unitError | unitReset | unitUpdate | unitHold =>
    exact .inr (.inl ⟨_, _, (onUnit_next_iff.1 h).2⟩)
  | insIdleWait | insIdleStart | insCopyWait | insCopyStall | insCopyXfer | insCopyLast | insAppendStall
  | insAppendChunk | insAppendFinal =>
    exact .inr (.inr (.inl ⟨_, _, (onInserter_next_iff.1 h).2⟩))
  | chkReset | chkWait | chkFill | chkFillLast | chkStall | chkPass | chkPassLast =>
    exact .inr (.inr (.inr ⟨_, _, _, (onChecker_next_iff.1 h).2⟩))

/-- No operation writes a build parameter (R8). -/
theorem exec_next_params {i : Instr} (h : exec i s = .next t) : t.params = s.params := by
  obtain ⟨o, rfl⟩ | ⟨crc, o, rfl⟩ | ⟨ins, o, rfl⟩ | ⟨chk, o, pulse, rfl⟩ := exec_next_cases h
  · exact s.setOut_params o
  · exact s.setUnit_params crc o
  · exact s.setIns_params ins o
  · exact s.setChk_params chk o pulse

/-- Settles O55: neither the decoded operation nor the end of the cycle writes the parameters. -/
theorem parametersNeverChange : Obligations.ParametersNeverChange := by
  intro s t h
  obtain ⟨i, u, -, hexec, rfl⟩ := step_next h
  calc (endCycle u).params = u.params := endCycle_params u
    _ = s.params := exec_next_params hexec

end Sys2Proof.Machine
end

section
/-! PROOFS. No operation reads the outputs of the cycle before (R36): neither the decode word nor the operands name them,
and each of the four updates of State overwrites them. -/

namespace Sys2Proof.Machine

variable (s : State) (o : CycleOut)

/-- The decode word is made of the inputs, the pipelines' states and the parameters alone (R72 to R76). -/
theorem cycleWord_setOut : cycleWord (s.setOut o) = cycleWord s := rfl

theorem execEngNext_setOut : execEngNext (s.setOut o) = execEngNext s := rfl

theorem onUnit_setOut (crc : List Crc) (p : CycleOut) : onUnit (s.setOut o) crc p = onUnit s crc p := rfl

theorem onInserter_setOut (ins : Inserter) (p : StreamOut) : onInserter (s.setOut o) ins p = onInserter s ins p := rfl

theorem onChecker_setOut (chk : Checker) (p : StreamOut) (pulse : Bool) :
    onChecker (s.setOut o) chk p pulse = onChecker s chk p pulse := rfl

/-- An operation's outcome, its new outputs included, does not depend on the stored outputs: its shared end overwrites
them, and what it passes to that end is computed from the other fields. -/
theorem exec_setOut (i : Instr) : exec i (s.setOut o) = exec i s := by
  cases i with
  | engNext => exact execEngNext_setOut s o
  | unitValue | unitError | unitReset | unitUpdate | unitHold => exact onUnit_setOut s o _ _
  | insIdleWait | insIdleStart | insCopyWait | insCopyStall | insCopyXfer | insCopyLast | insAppendStall
  | insAppendChunk | insAppendFinal => exact onInserter_setOut s o _ _
  | chkReset | chkWait | chkFill | chkFillLast | chkStall | chkPass | chkPassLast => exact onChecker_setOut s o _ _ _

/-- Settles O56: the cycle decodes the same word, and the decoded operation has the same outcome. -/
theorem outputsNeverRead : Obligations.OutputsNeverRead := by
  intro s o
  change step (s.setOut o) = step s
  simp only [step, cycleWord_setOut, exec_setOut]

end Sys2Proof.Machine
end

section
/-! PROOFS. The CRC32Unit's lane selector (R126) follows the set lanes of the mask: how many there are, and for a one-hot
mask which. The lane next state (R121) reads the widest lane's register only. -/

namespace Sys2Proof.Machine

/-- The set lanes of a mask given by a predicate on lane numbers are the lanes that meet it. -/
theorem setLanesFrom_map_range' (p : Nat → Bool) (n len : Nat) :
    setLanesFrom n ((List.range' n len).map p) = (List.range' n len).filter p := by
  induction len generalizing n with
  | zero => rfl
  | succ len ih => simp only [List.range'_succ, List.map_cons, List.filter_cons, setLanesFrom, ih]

theorem setLanes_oneHot {dwb k : Nat} (h : k < dwb) : setLanes (oneHot dwb k) = [k] := by
  have once : (List.range dwb).count k = 1 := List.count_eq_one_of_mem List.nodup_range (List.mem_range.2 h)
  calc setLanes (oneHot dwb k) = (List.range dwb).filter (· == k) := by
        simpa only [setLanes, oneHot, List.range_eq_range'] using setLanesFrom_map_range' (· == k) 0 dwb
    _ = [k] := by rw [List.filter_beq, once, List.replicate_one]

theorem laneSel_of_count_eq_zero (dwb : Nat) {m : LaneMask} (h : m.count true = 0) : laneSel dwb m = some (dwb - 1) := by
  have none_set : setLanes m = [] := List.eq_nil_of_length_eq_zero ((setLanesFrom_length 0 m).trans h)
  simp only [laneSel, none_set]

theorem laneSel_oneHot {dwb k : Nat} (h : k < dwb) : laneSel dwb (oneHot dwb k) = some k := by
  simp only [laneSel, setLanes_oneHot h]

theorem laneSel_of_two_le_count (dwb : Nat) {m : LaneMask} (h : 2 ≤ m.count true) : laneSel dwb m = none := by
  have several : 2 ≤ (setLanes m).length := h.trans_eq (setLanesFrom_length 0 m).symm
  unfold laneSel
  split
  next none_set => simp [none_set] at several
  next one_set => simp [one_set] at several
  next => rfl

/-- Settles O9: one clause for each number of set lanes. -/
theorem laneSelector : Obligations.LaneSelector := by
  intro dwb m _ _
  refine ⟨laneSel_of_count_eq_zero dwb, ?_, laneSel_of_two_le_count dwb⟩
  rintro k hk rfl
  exact laneSel_oneHot hk

theorem laneReg_of_getElem? {crc : List Crc} {k : Nat} {r : Crc} (h : crc[k]? = some r) : laneReg crc k = r := by
  simp [laneReg, List.getD_eq_getElem?_getD, h]

/-- Settles O10: the engine of every lane reads the register at `DWB-1` and its own slice of the data. -/
theorem laneNextStartsFromWidestLane : Obligations.LaneNextStartsFromWidestLane := by
  intro dwb crc d top htop k _
  rw [laneNext, laneReg_of_getElem? htop, subWord]

end Sys2Proof.Machine
end

section
/-! PROOFS. A cycle of the Inserter (R140): its decode word is packed from its state and its ports (R73), and its
operations answer a next state. In COPY an operation keeps the state (R143), or folds the offered element on every lane
(R145). -/

namespace Sys2Proof.Machine

open Sys2Proof.Safety

variable {s : State} {st : InsState}

theorem cycleWord_of_insCycle (h : InsCycle s st) :
    cycleWord s = .insdec (packWord (insCode st) s.inputs.ins.sinkValid s.inputs.ins.sink.last
      s.inputs.ins.sourceReady (insFinal s)) := by
  obtain ⟨-, hsel, hst⟩ := h
  rw [cycleWord_inserter hsel, insWord, hst]

theorem onInserter_of_insReady (h : InsReady s) (ins : Inserter) (o : StreamOut) :
    onInserter s ins o = .next (s.setIns ins o) :=
  onInserter_next_iff.2 ⟨h, rfl⟩

theorem sinkXfer_of_not_sinkValid {x : StreamIn} (h : x.sinkValid = false) (o : StreamOut) : sinkXfer x o = none := by
  simp [sinkXfer, h]

theorem sourceXfer_of_not_sourceValid (x : StreamIn) {o : StreamOut} (h : o.sourceValid = false) :
    sourceXfer x o = none := by
  simp [sourceXfer, h]

/-- UNIT_UPDATE on a bank whose widest register is `top` folds every lane from `top` (R121, R123). -/
theorem bankUpdate_eq_foldLanes {dwb : Nat} {crc : List Crc} {top : Crc} (h : crc[dwb - 1]? = some top) (d : Lanes) :
    bankUpdate dwb crc d = foldLanes dwb top d :=
  List.map_congr_left fun k _ => by rw [laneNext, laneReg_of_getElem? h, subWord, fold]

/-- R80: with nothing offered in COPY the other fields of INSDEC do not matter. -/
theorem decode_copy_notValid (l r c : Bool) :
    decode (.insdec (packWord (insCode .copy) false l r c)) = some .insCopyWait := by
  revert l r c
  decide

/-- R80: a non-final element offered in COPY with downstream ready, whatever the flag `c`. -/
theorem decode_copy_xfer (c : Bool) :
    decode (.insdec (packWord (insCode .copy) true false true c)) = some .insCopyXfer := by
  revert c
  decide

/-- Settles O21: INS_COPY_WAIT writes back the Inserter it read, and neither port's handshake completes. -/
theorem insCopyWaitResult : Obligations.InsCopyWaitResult := by
  intro s hcycle hvalid
  have word : decode (cycleWord s) = some .insCopyWait := by
    rw [cycleWord_of_insCycle hcycle, hvalid, decode_copy_notValid]
  refine ⟨word, silent s.params.insDwb s.draw (Config.freeSinkReady s.draw), ?_, rfl,
    sourceXfer_of_not_sourceValid _ rfl, sinkXfer_of_not_sinkValid hvalid _⟩
  exact onInserter_of_insReady hcycle.1 s.ins _

/-- Settles O23: INS_COPY_XFER folds every lane from the widest register and keeps the rest of the Inserter. -/
theorem insCopyXferResult : Obligations.InsCopyXferResult := by
  intro s top hcycle hvalid hlast hready htop
  have word : decode (cycleWord s) = some .insCopyXfer := by
    rw [cycleWord_of_insCycle hcycle, hvalid, hlast, hready, decode_copy_xfer]
  refine ⟨word, ?_⟩
  rw [← bankUpdate_eq_foldLanes htop]
  exact onInserter_of_insReady hcycle.1 _ (copyOut s true)

end Sys2Proof.Machine
end

section
/-! PROOFS. A step in closed form, component by component. The operation that the decode word selects (R80) ends in the
shared end of its component, with a next state and outputs that are functions of the state before: `insAfter`, `insOut`,
`chkAfter`, `chkOut`, `chkPulse`, `unitAfter` and `combOut`. -/

namespace Sys2Proof.Machine

open Sys2Proof.Safety

variable {s t : State}

/-! What a step adds to an operation. -/

/-- An operation's outcome with the cycle ended. -/
def ended : Host.Outcome State Fault Refusal → Host.Outcome State Fault Refusal
  | .next t => .next (endCycle t)
  | .fault r => .fault r
  | .refused r => .refused r

theorem step_eq_ended {i : Instr} (h : decode (cycleWord s) = some i) : step s = ended (exec i s) := by
  unfold step
  rw [h]
  dsimp only
  cases exec i s <;> rfl

theorem ended_next_iff {o : Host.Outcome State Fault Refusal} :
    ended o = .next t ↔ ∃ u, o = .next u ∧ t = endCycle u := by
  cases o <;> simp [ended, eq_comm]

theorem ended_fault_iff {o : Host.Outcome State Fault Refusal} {r : Fault} : ended o = .fault r ↔ o = .fault r := by
  cases o <;> simp [ended]

theorem ended_refused_iff {o : Host.Outcome State Fault Refusal} {r : Refusal} :
    ended o = .refused r ↔ o = .refused r := by
  cases o <;> simp [ended]

/-! The Inserter. -/

/-- The operation of an Inserter's cycle in state `st`, with the fields `v`, `l`, `r`, `c` of INSDEC (R73, R80). -/
def insOp (st : InsState) (v l r c : Bool) : Instr :=
  match st with
  | .idle => if v then .insIdleStart else .insIdleWait
  | .copy => if !v then .insCopyWait else if !r then .insCopyStall else if l then .insCopyLast else .insCopyXfer
  | .append => if !r then .insAppendStall else if c then .insAppendFinal else .insAppendChunk

theorem decode_insdec (st : InsState) (v l r c : Bool) :
    decode (.insdec (packWord (insCode st) v l r c)) = some (insOp st v l r c) := by
  cases st <;> revert v l r c <;> decide

/-- The Inserter after its cycle (R141 to R149). -/
def insAfter (s : State) : Inserter :=
  match s.ins.st with
  | .idle => { s.ins with st := if s.inputs.ins.sinkValid then .copy else .idle, cnt := 0, crc := bankReset s.params.insDwb }
  | .copy =>
    if s.inputs.ins.sinkValid && s.inputs.ins.sourceReady then
      if s.inputs.ins.sink.last then
        ⟨.append, 0, s.inputs.ins.sink.lastBe, bankUpdate s.params.insDwb s.ins.crc s.inputs.ins.sink.data⟩
      else { s.ins with crc := bankUpdate s.params.insDwb s.ins.crc s.inputs.ins.sink.data }
    else s.ins
  | .append =>
    if s.inputs.ins.sourceReady then
      if insFinal s then { s.ins with st := .idle, cnt := 0 } else { s.ins with cnt := s.ins.cnt + 1 }
    else s.ins

/-- The Inserter's outputs in its cycle (R141 to R149). -/
def insOut (s : State) : StreamOut :=
  match s.ins.st with
  | .idle => silent s.params.insDwb s.draw (readyIfOffered s.inputs.ins false s.draw)
  | .copy =>
    if s.inputs.ins.sinkValid then copyOut s s.inputs.ins.sourceReady
    else silent s.params.insDwb s.draw (Config.freeSinkReady s.draw)
  | .append => appendOut s

theorem exec_insOp (s : State) :
    exec (insOp s.ins.st s.inputs.ins.sinkValid s.inputs.ins.sink.last s.inputs.ins.sourceReady (insFinal s)) s =
      onInserter s (insAfter s) (insOut s) := by
  unfold insOp insAfter insOut
  cases hst : s.ins.st with
  | idle =>
    cases hv : s.inputs.ins.sinkValid <;>
      simp [exec, execInsIdleWait, execInsIdleStart, readyIfOffered, hv, ← hst]
  | copy =>
    cases s.inputs.ins.sinkValid
    · simp [exec, execInsCopyWait]
    cases s.inputs.ins.sourceReady
    · simp [exec, execInsCopyStall]
    cases s.inputs.ins.sink.last
    · simp [exec, execInsCopyXfer]
    · simp [exec, execInsCopyLast]
  | append =>
    cases s.inputs.ins.sourceReady
    · simp [exec, execInsAppendStall]
    cases insFinal s
    · simp [exec, execInsAppendChunk, hst]
    · simp [exec, execInsAppendFinal]

theorem decode_cycleWord_inserter (h : s.inputs.sel = .inserter) :
    decode (cycleWord s) =
      some (insOp s.ins.st s.inputs.ins.sinkValid s.inputs.ins.sink.last s.inputs.ins.sourceReady (insFinal s)) := by
  rw [cycleWord_inserter h, insWord, decode_insdec]

theorem step_inserter (h : s.inputs.sel = .inserter) : step s = ended (onInserter s (insAfter s) (insOut s)) := by
  rw [step_eq_ended (decode_cycleWord_inserter h), exec_insOp]

theorem step_inserter_iff (h : s.inputs.sel = .inserter) :
    step s = .next t ↔ InsReady s ∧ t = endCycle (s.setIns (insAfter s) (insOut s)) := by
  simp only [step_inserter h, ended_next_iff, onInserter_next_iff, InsReady, and_assoc, exists_and_left, exists_eq_left]

/-! The Checker. -/

/-- The operation of a Checker's cycle in state `st`, with the fields `v`, `l`, `r`, `f` of CHKDEC (R75, R80). -/
def chkOp (st : ChkState) (v l r f : Bool) : Instr :=
  if st = .reset then .chkReset
  else if !v then .chkWait
  else if f then if !r then .chkStall else if l then .chkPassLast else .chkPass
  else if l then .chkFillLast else .chkFill

theorem decode_chkdec (st : ChkState) (v l r f : Bool) :
    decode (.chkdec (packWord (chkCode st) v l r f)) = some (chkOp st v l r f) := by
  cases st <;> revert v l r f <;> decide

/-- An element is offered that the Checker, outside RESET, takes (R171). -/
def chkTakes (s : State) : Bool := s.inputs.chk.sinkValid && (!chkFull s || s.inputs.chk.sourceReady)

/-- The Checker after its cycle (R176 to R182). -/
def chkAfter (s : State) : Checker :=
  if s.chk.st = .reset then ⟨.idle, [], bankReset s.params.chkDwb⟩
  else if chkTakes s then
    ⟨if s.inputs.chk.sink.last then .reset else .active,
      push (if chkFull s then pop s.chk.buf else s.chk.buf) s.inputs.chk.sink, chkFold s⟩
  else s.chk

/-- The Checker's outputs in its cycle but the pulse (R176 to R182). -/
def chkOut (s : State) : StreamOut :=
  if s.chk.st = .reset then silent s.params.chkDwb s.draw (readyIfOffered s.inputs.chk false s.draw)
  else if s.inputs.chk.sinkValid then
    if chkFull s then ⟨s.inputs.chk.sourceReady, true, released s s.inputs.chk.sink.last (chkSourceError s)⟩
    else silent s.params.chkDwb s.draw true
  else silent s.params.chkDwb s.draw (Config.freeSinkReady s.draw)

/-- The Checker's `error_pulse` in its cycle (R175). -/
def chkPulse (s : State) : Bool :=
  decide (s.chk.st ≠ .reset) && chkTakes s && chkFull s && s.inputs.chk.sink.last && chkCrcErr s

theorem activated_of_ne_reset {st : ChkState} (h : st ≠ .reset) : activated st = .active := by
  cases st with
  | reset => exact absurd rfl h
  | idle | active => rfl

theorem exec_chkOp (s : State) :
    exec (chkOp s.chk.st s.inputs.chk.sinkValid s.inputs.chk.sink.last s.inputs.chk.sourceReady (chkFull s)) s =
      onChecker s (chkAfter s) (chkOut s) (chkPulse s) := by
  unfold chkOp chkAfter chkOut chkPulse chkTakes
  by_cases hst : s.chk.st = .reset
  · simp [hst, exec, execChkReset]
  cases s.inputs.chk.sinkValid
  · simp [hst, exec, execChkWait]
  cases chkFull s
  · cases s.inputs.chk.sink.last <;> simp [hst, exec, execChkFill, execChkFillLast, activated_of_ne_reset hst]
  cases s.inputs.chk.sourceReady
  · simp [hst, exec, execChkStall]
  cases hl : s.inputs.chk.sink.last
  · have own : chkSourceError s = (·.error) := by funext b; simp [chkSourceError, hl]
    simp [hst, exec, execChkPass, activated_of_ne_reset hst, own]
  · have all : chkSourceError s = fun _ => chkFinalError s := by funext b; simp [chkSourceError, hl]
    simp [hst, exec, execChkPassLast, all]

theorem decode_cycleWord_checker (h : s.inputs.sel = .checker) :
    decode (cycleWord s) =
      some (chkOp s.chk.st s.inputs.chk.sinkValid s.inputs.chk.sink.last s.inputs.chk.sourceReady (chkFull s)) := by
  rw [cycleWord_checker h, chkWord, decode_chkdec]

theorem step_checker (h : s.inputs.sel = .checker) :
    step s = ended (onChecker s (chkAfter s) (chkOut s) (chkPulse s)) := by
  rw [step_eq_ended (decode_cycleWord_checker h), exec_chkOp]

theorem step_checker_iff (h : s.inputs.sel = .checker) :
    step s = .next t ↔ ChkReady s ∧ t = endCycle (s.setChk (chkAfter s) (chkOut s) (chkPulse s)) := by
  simp only [step_checker h, ended_next_iff, onChecker_next_iff, ChkReady, and_assoc, exists_and_left, exists_eq_left]

/-! The standalone unit. -/

/-- The operation of a unit's cycle (R72, R80). -/
def unitOp (reset enable : Bool) : Instr := if reset then .unitReset else if enable then .unitUpdate else .unitHold

theorem decode_unitctl (reset enable : Bool) :
    decode (.unitctl (packUnitctl reset enable)) = some (unitOp reset enable) := by
  revert reset enable
  decide

/-- The standalone unit's bank after its cycle (R122 to R124). -/
def unitAfter (s : State) : List Crc :=
  if s.inputs.unit.reset then bankReset s.params.unitDwb
  else if s.inputs.unit.enable then bankUpdate s.params.unitDwb s.unit s.inputs.unit.data
  else s.unit

theorem exec_unitOp (s : State) :
    exec (unitOp s.inputs.unit.reset s.inputs.unit.enable) s = onUnit s (unitAfter s) (unitPorts s) := by
  unfold unitOp unitAfter
  cases s.inputs.unit.reset
  · cases s.inputs.unit.enable
    · simp [exec, execUnitHold]
    · simp [exec, execUnitUpdate]
  · simp [exec, execUnitReset]

theorem decode_cycleWord_unit (h : s.inputs.sel = .unit) :
    decode (cycleWord s) = some (unitOp s.inputs.unit.reset s.inputs.unit.enable) := by
  rw [cycleWord_unit h, decode_unitctl]

theorem step_unit (h : s.inputs.sel = .unit) : step s = ended (onUnit s (unitAfter s) (unitPorts s)) := by
  rw [step_eq_ended (decode_cycleWord_unit h), exec_unitOp]

theorem step_unit_iff (h : s.inputs.sel = .unit) :
    step s = .next t ↔ UnitReady s ∧ t = endCycle (s.setUnit (unitAfter s) (unitPorts s)) := by
  simp only [step_unit h, ended_next_iff, onUnit_next_iff, UnitReady, and_assoc, exists_and_left, exists_eq_left]

/-! The combinational functions. -/

/-- The operation of a combinational function (R80). -/
def combOp : CombPort → Instr
  | .engNext => .engNext
  | .unitValue => .unitValue
  | .unitError => .unitError

/-- A combinational function's output (R100, R127, R128). -/
def combOut (s : State) : CombPort → CycleOut
  | .engNext => .engine (engine s.inputs.engine.state s.inputs.engine.data)
  | .unitValue => .unitValue (unitValuePort s.params.unitDwb s.unit s.inputs.unit.lastBe s.draw)
  | .unitError =>
    .unitError (unitErrorPort s.params.unitDwb s.unit s.inputs.unit.data s.inputs.unit.lastBe s.draw)

/-- A combinational function has its effect: its operands are values of its ports. -/
def CombReady (s : State) : CombPort → Prop
  | .engNext => s.inputs.engine.wf = true
  | .unitValue | .unitError => UnitReady s

theorem exec_combOp_next_iff (p : CombPort) :
    exec (combOp p) s = .next t ↔ CombReady s p ∧ t = s.setOut (combOut s p) := by
  cases p with
  | engNext => exact execEngNext_next_iff
  | unitValue | unitError => exact onUnit_next_iff

theorem decode_cycleWord_comb {p : CombPort} (h : s.inputs.sel = .comb p) : decode (cycleWord s) = some (combOp p) := by
  rw [cycleWord_comb h]
  cases p <;> rfl

theorem step_comb {p : CombPort} (h : s.inputs.sel = .comb p) : step s = ended (exec (combOp p) s) :=
  step_eq_ended (decode_cycleWord_comb h)

theorem step_comb_iff {p : CombPort} (h : s.inputs.sel = .comb p) :
    step s = .next t ↔ CombReady s p ∧ t = endCycle (s.setOut (combOut s p)) := by
  simp only [step_comb h, ended_next_iff, exec_combOp_next_iff, and_assoc, exists_and_left, exists_eq_left]

end Sys2Proof.Machine
end

section
/-! PROOFS. The invariant of the machine (R22, R25, R26, R29, R31): each component's cycle keeps its part, and no cycle
writes another component's part. -/

namespace Sys2Proof.Machine

open Sys2Proof.Safety

variable {s t : State}

theorem chkFull_iff : chkFull s = true ↔ s.chk.buf.length = Config.ratio s.params.chkDwb := by simp [chkFull]

theorem insFinal_iff : insFinal s = true ↔ s.ins.cnt = Config.ratio s.params.insDwb - 1 := by simp [insFinal]

theorem lastBe_length_of_wf {dwb : Nat} {e : Element} (h : e.wf dwb = true) : e.lastBe.length = dwb := by
  simp only [Element.wf, Bool.and_eq_true, beq_iff_eq] at h
  exact h.2

theorem data_length_of_wf {dwb : Nat} {e : Element} (h : e.wf dwb = true) : e.data.length = dwb := by
  simp only [Element.wf, Bool.and_eq_true, beq_iff_eq] at h
  exact h.1

/-- UNIT_UPDATE, UNIT_RESET and UNIT_HOLD keep the number of lanes. -/
theorem unitAfter_length (h : s.unit.length = s.params.unitDwb) : (unitAfter s).length = s.params.unitDwb := by
  unfold unitAfter
  split
  · exact bankReset_length _
  · split
    · exact bankUpdate_length _ _ _
    · exact h

theorem insAfter_keeps_insInv (ready : InsReady s) (inv : InsInv s.params.insDwb s.ins) :
    InsInv s.params.insDwb (insAfter s) := by
  obtain ⟨hcrc, hlbe, hcnt, hzero⟩ := inv
  have hpos : 0 < Config.ratio s.params.insDwb := ratio_pos ready.1
  unfold insAfter
  split
  next => exact ⟨bankReset_length _, hlbe, hpos, fun _ => rfl⟩
  next =>
    split
    · split
      · exact ⟨bankUpdate_length _ _ _, lastBe_length_of_wf ready.2, hpos, fun h => absurd rfl h⟩
      · exact ⟨bankUpdate_length _ _ _, hlbe, hcnt, hzero⟩
    · exact ⟨hcrc, hlbe, hcnt, hzero⟩
  next hst =>
    split
    · split
      · exact ⟨hcrc, hlbe, hpos, fun _ => rfl⟩
      next hfinal =>
        rw [insFinal_iff] at hfinal
        exact ⟨hcrc, hlbe, by dsimp only; omega, fun h => absurd hst h⟩
    · exact ⟨hcrc, hlbe, hcnt, hzero⟩

/-- The buffer after an element is taken outside RESET: never more than RATIO, and never empty (R31). -/
theorem taken_buf_length (h : s.chk.buf.length ≤ Config.ratio s.params.chkDwb) (hpos : 1 ≤ Config.ratio s.params.chkDwb)
    (e : Element) :
    1 ≤ (push (if chkFull s then pop s.chk.buf else s.chk.buf) e).length ∧
      (push (if chkFull s then pop s.chk.buf else s.chk.buf) e).length ≤ Config.ratio s.params.chkDwb := by
  rw [push_length]
  split
  next full =>
    rw [chkFull_iff] at full
    rw [pop_length]
    omega
  next room =>
    rw [chkFull_iff] at room
    omega

theorem taken_buf_wf (ready : ChkReady s) (h : ∀ e ∈ s.chk.buf, e.wf s.params.chkDwb = true) :
    ∀ e ∈ push (if chkFull s then pop s.chk.buf else s.chk.buf) s.inputs.chk.sink, e.wf s.params.chkDwb = true := by
  intro e he
  obtain hold | rfl := mem_push.1 he
  · split at hold
    · exact h e (mem_of_mem_pop hold)
    · exact h e hold
  · exact ready.2

theorem chkAfter_keeps_chkInv (ready : ChkReady s) (inv : ChkInv s.params.chkDwb s.chk) :
    ChkInv s.params.chkDwb (chkAfter s) := by
  obtain ⟨hcrc, hwf, hcap, hratio, hidle, hactive⟩ := inv
  have hpos := ratio_pos ready.1
  unfold chkAfter
  split
  next => exact ⟨bankReset_length _, by simp, by simp, by simp, by simp, by simp⟩
  next hst =>
    split
    next =>
      obtain ⟨hone, hle⟩ := taken_buf_length (hratio hst) hpos s.inputs.chk.sink
      refine ⟨bankUpdate_length _ _ _, taken_buf_wf ready hwf, hle.trans (Nat.le_succ _), fun _ => hle, ?_, fun _ => hone⟩
      dsimp only
      split <;> simp
    next => exact ⟨hcrc, hwf, hcap, hratio, hidle, hactive⟩

/-- R31: a cycle of the Checker leaves at most RATIO elements, also where it enters RESET. -/
theorem chkAfter_buf_length_le (ready : ChkReady s) (inv : ChkInv s.params.chkDwb s.chk) :
    (chkAfter s).buf.length ≤ Config.ratio s.params.chkDwb := by
  obtain ⟨-, -, -, hratio, -, -⟩ := inv
  unfold chkAfter
  split
  next => simp
  next hst =>
    split
    · exact (taken_buf_length (hratio hst) (ratio_pos ready.1) _).2
    · exact hratio hst

/-- The end of a cycle keeps the invariant: it writes the environment's fields alone. -/
theorem stateInv_endCycle (h : StateInv s) : StateInv (endCycle s) := by
  simpa only [StateInv, endCycle_params, endCycle_unit, endCycle_ins, endCycle_chk] using h

/-- Settles O54: the clocked component's part is kept by its own cycle, and the other parts are not written. -/
theorem stepKeepsInvariant : Obligations.StepKeepsInvariant := by
  intro s t ⟨hunit, hins, hchk⟩ hstep
  cases hsel : s.inputs.sel with
  | comb p =>
    obtain ⟨-, rfl⟩ := (step_comb_iff hsel).1 hstep
    exact ⟨stateInv_endCycle ⟨hunit, hins, hchk⟩, nofun⟩
  | unit =>
    obtain ⟨-, rfl⟩ := (step_unit_iff hsel).1 hstep
    exact ⟨stateInv_endCycle ⟨unitAfter_length hunit, hins, hchk⟩, nofun⟩
  | inserter =>
    obtain ⟨ready, rfl⟩ := (step_inserter_iff hsel).1 hstep
    exact ⟨stateInv_endCycle ⟨hunit, insAfter_keeps_insInv ready hins, hchk⟩, nofun⟩
  | checker =>
    obtain ⟨ready, rfl⟩ := (step_checker_iff hsel).1 hstep
    refine ⟨stateInv_endCycle ⟨hunit, hins, chkAfter_keeps_chkInv ready hchk⟩, fun _ => ?_⟩
    rw [endCycle_chk, endCycle_params]
    exact chkAfter_buf_length_le ready hchk

theorem stateInv_resetOf (p : Params) {lbe : LaneMask} {buf : List Element} (hp : p.wf = true)
    (hlbe : lbe.length = p.insDwb) (hcap : buf.length ≤ Config.cap p.chkDwb) (hwf : ∀ e ∈ buf, e.wf p.chkDwb = true) :
    StateInv (State.resetOf p lbe buf) := by
  simp only [Params.wf, Bool.and_eq_true] at hp
  obtain ⟨⟨-, hins⟩, -⟩ := hp
  exact ⟨List.length_replicate, ⟨List.length_replicate, hlbe, ratio_pos hins, fun _ => rfl⟩,
    List.length_replicate, hwf, hcap, fun h => absurd rfl h, nofun, nofun⟩

/-- Loading inputs writes the environment's fields alone. -/
theorem load_eq (s : State) (xs : List Inputs) :
    ∃ x rest, s.load xs = { s with inputs := x, script := rest } := by
  cases xs with
  | nil => exact ⟨s.inputs, s.script, rfl⟩
  | cons x rest => exact ⟨x, rest, rfl⟩

theorem stateInv_load (h : StateInv s) (xs : List Inputs) : StateInv (s.load xs) := by
  obtain ⟨x, rest, e⟩ := load_eq s xs
  rw [e]
  exact h

/-- Settles O53: the invariant asks nothing of the latch and the buffer at reset but their widths and the capacity. -/
theorem invariantHoldsAtReset : Obligations.InvariantHoldsAtReset := by
  refine ⟨stateInv_resetOf resetParams (by decide) rfl (Nat.zero_le _) (by simp), ?_⟩
  rintro s ⟨p, lbe, buf, xs, hp, hlbe, hcap, hwf, rfl⟩
  exact stateInv_load (stateInv_resetOf p hp hlbe hcap hwf) xs

/-- Settles O52: a reset state is `State.resetOf` with inputs loaded. -/
theorem resetLeavesStatedValues : Obligations.ResetLeavesStatedValues := by
  refine ⟨?_, resetParams, [false], [], [], by decide, rfl, by decide, by simp, rfl⟩
  rintro s ⟨p, lbe, buf, xs, -, -, -, -, rfl⟩
  obtain ⟨x, rest, e⟩ := load_eq (State.resetOf p lbe buf) xs
  rw [e]
  exact ⟨rfl, rfl, rfl, rfl, rfl, rfl⟩

end Sys2Proof.Machine
end

section
/-! PROOFS. What a cycle reads (R27, R30, R210): a pipeline's next state and outputs are functions of its own state and
ports, the parameters and the draw counter. Two machines that differ in what their cycles do not read step alike, and
runs from them are the same. -/

namespace Sys2Proof.Machine

open Sys2Proof.Safety

variable {s s' t : State}

/-! The components share no state. -/

theorem insAfter_congr (hp : s'.params = s.params) (hi : s'.ins = s.ins) (hx : s'.inputs.ins = s.inputs.ins) :
    insAfter s' = insAfter s := by
  unfold insAfter insFinal
  rw [hp, hi, hx]

theorem insOut_congr (hp : s'.params = s.params) (hd : s'.draw = s.draw) (hi : s'.ins = s.ins)
    (hx : s'.inputs.ins = s.inputs.ins) : insOut s' = insOut s := by
  unfold insOut copyOut appendOut trailerElement insValue insFinal
  rw [hp, hd, hi, hx]

theorem chkAfter_congr (hp : s'.params = s.params) (hc : s'.chk = s.chk) (hx : s'.inputs.chk = s.inputs.chk) :
    chkAfter s' = chkAfter s := by
  unfold chkAfter chkTakes chkFull chkFold
  rw [hp, hc, hx]

theorem chkCrcErr_congr (hp : s'.params = s.params) (hd : s'.draw = s.draw) (hc : s'.chk = s.chk)
    (hx : s'.inputs.chk = s.inputs.chk) : chkCrcErr s' = chkCrcErr s := by
  simp only [chkCrcErr, hp, hd, hc, hx]

theorem chkSourceError_congr (hp : s'.params = s.params) (hd : s'.draw = s.draw) (hc : s'.chk = s.chk)
    (hx : s'.inputs.chk = s.inputs.chk) : chkSourceError s' = chkSourceError s := by
  funext b
  simp only [chkSourceError, chkFinalError, chkCrcErr_congr hp hd hc hx, hc, hx]

theorem chkOut_congr (hp : s'.params = s.params) (hd : s'.draw = s.draw) (hc : s'.chk = s.chk)
    (hx : s'.inputs.chk = s.inputs.chk) : chkOut s' = chkOut s := by
  unfold chkOut chkFull released
  rw [chkSourceError_congr hp hd hc hx, hp, hd, hc, hx]

theorem chkPulse_congr (hp : s'.params = s.params) (hd : s'.draw = s.draw) (hc : s'.chk = s.chk)
    (hx : s'.inputs.chk = s.inputs.chk) : chkPulse s' = chkPulse s := by
  simp only [chkPulse, chkTakes, chkFull, chkCrcErr_congr hp hd hc hx, hp, hc, hx]

theorem unitAfter_congr (hp : s'.params = s.params) (hu : s'.unit = s.unit) (hx : s'.inputs.unit = s.inputs.unit) :
    unitAfter s' = unitAfter s := by
  simp only [unitAfter, hp, hu, hx]

theorem unitPorts_congr (hp : s'.params = s.params) (hd : s'.draw = s.draw) (hu : s'.unit = s.unit)
    (hx : s'.inputs.unit = s.inputs.unit) : unitPorts s' = unitPorts s := by
  simp only [unitPorts, hp, hd, hu, hx]

/-- A step writes the clocked component alone. -/
theorem step_frame (h : step s = .next t) :
    (s.inputs.sel ≠ .unit → t.unit = s.unit) ∧ (s.inputs.sel ≠ .inserter → t.ins = s.ins) ∧
      (s.inputs.sel ≠ .checker → t.chk = s.chk) := by
  cases hsel : s.inputs.sel with
  | comb p =>
    obtain ⟨-, rfl⟩ := (step_comb_iff hsel).1 h
    simp
  | unit =>
    obtain ⟨-, rfl⟩ := (step_unit_iff hsel).1 h
    simp
  | inserter =>
    obtain ⟨-, rfl⟩ := (step_inserter_iff hsel).1 h
    simp
  | checker =>
    obtain ⟨-, rfl⟩ := (step_checker_iff hsel).1 h
    simp

/-- Settles O57: a cycle writes its own component, and reads its own component, its ports, the parameters and the
draw. -/
theorem componentsShareNoState : Obligations.ComponentsShareNoState := by
  refine ⟨fun s t => step_frame, ?_, ?_, ?_⟩
  · intro s s' t hp hd hi hx hsel hsel' hstep
    obtain ⟨ready, rfl⟩ := (step_inserter_iff hsel).1 hstep
    have ready' : InsReady s' := by rw [InsReady, hp, hx]; exact ready
    refine ⟨_, (step_inserter_iff hsel').2 ⟨ready', rfl⟩, ?_, ?_⟩
    · simpa using insAfter_congr hp hi hx
    · simpa using insOut_congr hp hd hi hx
  · intro s s' t hp hd hc hx hsel hsel' hstep
    obtain ⟨ready, rfl⟩ := (step_checker_iff hsel).1 hstep
    have ready' : ChkReady s' := by rw [ChkReady, hp, hx]; exact ready
    refine ⟨_, (step_checker_iff hsel').2 ⟨ready', rfl⟩, ?_, ?_⟩
    · simpa using chkAfter_congr hp hc hx
    · simpa using ⟨chkOut_congr hp hd hc hx, chkPulse_congr hp hd hc hx⟩
  · intro s s' t hp hd hu hx hsel hsel' hstep
    obtain ⟨ready, rfl⟩ := (step_unit_iff hsel).1 hstep
    have ready' : UnitReady s' := by rw [UnitReady, hp, hx]; exact ready
    refine ⟨_, (step_unit_iff hsel').2 ⟨ready', rfl⟩, ?_, ?_⟩
    · simpa using unitAfter_congr hp hu hx
    · simpa using unitPorts_congr hp hd hu hx

/-! Two machines that agree outside the pipelines do the same in a cycle of another component. -/

theorem step_comb_transfer (hp : s'.params = s.params) (hd : s'.draw = s.draw) (hu : s'.unit = s.unit)
    (hx : s'.inputs = s.inputs) {p : CombPort} (hsel : s.inputs.sel = .comb p) (h : step s = .next t) :
    ∃ o, t = endCycle (s.setOut o) ∧ step s' = .next (endCycle (s'.setOut o)) := by
  obtain ⟨ready, rfl⟩ := (step_comb_iff hsel).1 h
  have out : combOut s' p = combOut s p := by cases p <;> simp only [combOut, hp, hu, hx, hd]
  have ready' : CombReady s' p := by cases p <;> simpa only [CombReady, UnitReady, hp, hx] using ready
  exact ⟨combOut s p, rfl, out ▸ (step_comb_iff (by rw [hx, hsel])).2 ⟨ready', rfl⟩⟩

theorem step_unit_transfer (hp : s'.params = s.params) (hd : s'.draw = s.draw) (hu : s'.unit = s.unit)
    (hx : s'.inputs = s.inputs) (hsel : s.inputs.sel = .unit) (h : step s = .next t) :
    ∃ crc o, t = endCycle (s.setUnit crc o) ∧ step s' = .next (endCycle (s'.setUnit crc o)) := by
  obtain ⟨ready, rfl⟩ := (step_unit_iff hsel).1 h
  have ready' : UnitReady s' := by rwa [UnitReady, hp, hx]
  refine ⟨unitAfter s, unitPorts s, rfl, (step_unit_iff (by rw [hx, hsel])).2 ⟨ready', ?_⟩⟩
  rw [unitPorts_congr hp hd hu (congrArg Inputs.unit hx), unitAfter_congr hp hu (congrArg Inputs.unit hx)]

/-! The latch outside APPEND and the staging buffer in RESET. -/

theorem endCycle_setPipelines (s : State) (i : Inserter) (c : Checker) :
    endCycle { s with ins := i, chk := c } = { endCycle s with ins := i, chk := c } := by
  cases h : s.script <;> simp [endCycle, h]

theorem alikeButUnread_endCycle (h : AlikeButUnread s s') : AlikeButUnread (endCycle s) (endCycle s') := by
  obtain ⟨lbe, buf, rfl, hlbe, hbuf⟩ := h
  refine ⟨lbe, buf, ?_, by simpa using hlbe, by simpa using hbuf⟩
  rw [endCycle_setPipelines, endCycle_ins, endCycle_chk]

theorem alikeButUnread_symm (h : AlikeButUnread s s') : AlikeButUnread s' s := by
  obtain ⟨lbe, buf, rfl, hlbe, hbuf⟩ := h
  exact ⟨s.ins.lbe, s.chk.buf, rfl, fun h => (hlbe h).symm, fun h => (hbuf h).symm⟩

/-- Outside APPEND a cycle of the Inserter does not read the latch; it keeps it, or writes it on the way to APPEND. -/
theorem insAfter_of_alikeButUnread (h : AlikeButUnread s s') :
    ∃ lbe, insAfter s' = { insAfter s with lbe := lbe } ∧ ((insAfter s).st = .append → lbe = (insAfter s).lbe) := by
  obtain ⟨lbe, buf, rfl, hlbe, -⟩ := h
  cases hst : s.ins.st with
  | idle =>
    refine ⟨lbe, by simp [insAfter, hst], fun h => ?_⟩
    cases hv : s.inputs.ins.sinkValid <;> simp [insAfter, hst, hv] at h
  | copy =>
    cases hx : s.inputs.ins.sinkValid && s.inputs.ins.sourceReady
    · exact ⟨lbe, by simp [insAfter, hst, hx], fun h => by simp [insAfter, hst, hx] at h⟩
    cases hl : s.inputs.ins.sink.last
    · exact ⟨lbe, by simp [insAfter, hst, hx, hl], fun h => by simp [insAfter, hst, hx, hl] at h⟩
    · exact ⟨s.inputs.ins.sink.lastBe, by simp [insAfter, hst, hx, hl], fun _ => by simp [insAfter, hst, hx, hl]⟩
  | append =>
    obtain rfl := hlbe hst
    exact ⟨(insAfter s).lbe, insAfter_congr rfl rfl rfl, fun _ => rfl⟩

theorem insOut_of_alikeButUnread (h : AlikeButUnread s s') : insOut s' = insOut s := by
  obtain ⟨lbe, buf, rfl, hlbe, -⟩ := h
  cases hst : s.ins.st with
  | idle => simp [insOut, hst]
  | copy => simp [insOut, hst, copyOut]
  | append =>
    obtain rfl := hlbe hst
    exact insOut_congr rfl rfl rfl rfl

/-- In RESET a cycle of the Checker does not read the buffer, and empties it. -/
theorem chk_of_alikeButUnread (h : AlikeButUnread s s') :
    chkAfter s' = chkAfter s ∧ chkOut s' = chkOut s ∧ chkPulse s' = chkPulse s := by
  obtain ⟨lbe, buf, rfl, -, hbuf⟩ := h
  by_cases hst : s.chk.st = .reset
  · simp [chkAfter, chkOut, chkPulse, hst]
  · obtain rfl := hbuf hst
    exact ⟨chkAfter_congr rfl rfl rfl, chkOut_congr rfl rfl rfl rfl, chkPulse_congr rfl rfl rfl rfl⟩

theorem alikeButUnread_setIns (h : AlikeButUnread s s') (o : StreamOut) :
    AlikeButUnread (s.setIns (insAfter s) o) (s'.setIns (insAfter s') o) := by
  obtain ⟨lbe', hafter, hlbe'⟩ := insAfter_of_alikeButUnread h
  rw [hafter]
  obtain ⟨lbe, buf, rfl, -, hbuf⟩ := h
  exact ⟨lbe', buf, rfl, hlbe', hbuf⟩

theorem alikeButUnread_setChk (h : AlikeButUnread s s') (c : Checker) (o : StreamOut) (p : Bool) :
    AlikeButUnread (s.setChk c o p) (s'.setChk c o p) := by
  obtain ⟨lbe, buf, rfl, hlbe, -⟩ := h
  exact ⟨lbe, c.buf, rfl, hlbe, fun _ => rfl⟩

theorem alikeButUnread_setUnit (h : AlikeButUnread s s') (crc : List Crc) (o : CycleOut) :
    AlikeButUnread (s.setUnit crc o) (s'.setUnit crc o) := by
  obtain ⟨lbe, buf, rfl, hlbe, hbuf⟩ := h
  exact ⟨lbe, buf, rfl, hlbe, hbuf⟩

theorem alikeButUnread_setOut (h : AlikeButUnread s s') (o : CycleOut) :
    AlikeButUnread (s.setOut o) (s'.setOut o) := by
  obtain ⟨lbe, buf, rfl, hlbe, hbuf⟩ := h
  exact ⟨lbe, buf, rfl, hlbe, hbuf⟩

/-- Settles O60: a simulation step, one case for each component. -/
theorem stepKeepsAlikeButUnread : Obligations.StepKeepsAlikeButUnread := by
  intro s s' t alike hstep
  have same : s'.params = s.params ∧ s'.unit = s.unit ∧ s'.inputs = s.inputs ∧ s'.draw = s.draw := by
    obtain ⟨lbe, buf, rfl, -⟩ := alike
    exact ⟨rfl, rfl, rfl, rfl⟩
  obtain ⟨hp, hu, hx, hd⟩ := same
  cases hsel : s.inputs.sel with
  | comb p =>
    obtain ⟨o, rfl, hstep'⟩ := step_comb_transfer hp hd hu hx hsel hstep
    exact ⟨_, hstep', alikeButUnread_endCycle (alikeButUnread_setOut alike o), by simp⟩
  | unit =>
    obtain ⟨crc, o, rfl, hstep'⟩ := step_unit_transfer hp hd hu hx hsel hstep
    exact ⟨_, hstep', alikeButUnread_endCycle (alikeButUnread_setUnit alike crc o), by simp⟩
  | inserter =>
    obtain ⟨ready, rfl⟩ := (step_inserter_iff hsel).1 hstep
    have ready' : InsReady s' := by rwa [InsReady, hp, hx]
    refine ⟨_, (step_inserter_iff (by rw [hx, hsel])).2 ⟨ready', rfl⟩, ?_, ?_⟩
    · rw [insOut_of_alikeButUnread alike]
      exact alikeButUnread_endCycle (alikeButUnread_setIns alike _)
    · simp [insOut_of_alikeButUnread alike]
  | checker =>
    obtain ⟨ready, rfl⟩ := (step_checker_iff hsel).1 hstep
    have ready' : ChkReady s' := by rwa [ChkReady, hp, hx]
    obtain ⟨after, out, pulse⟩ := chk_of_alikeButUnread alike
    refine ⟨_, (step_checker_iff (by rw [hx, hsel])).2 ⟨ready', rfl⟩, ?_, ?_⟩
    · rw [after, out, pulse]
      exact alikeButUnread_endCycle (alikeButUnread_setChk alike _ _ _)
    · simp [out, pulse]

/-! Runs. -/

theorem run_succ_iff {n : Nat} {tr : Trace} {u : State} :
    run (n + 1) s = some (tr, u) ↔
      ∃ t tr', step s = .next t ∧ run n t = some (tr', u) ∧ tr = (s.inputs, t.out) :: tr' := by
  rw [run]
  cases step s with
  | next t =>
    cases h : run n t with
    | none => simp [h]
    | some r =>
      obtain ⟨tr', u'⟩ := r
      simp [h, and_comm, eq_comm]
  | fault r => simp
  | refused r => simp

/-- A run from one of two states that step alike is a run from the other. -/
theorem run_of_simulation {R : State → State → Prop} (inputs : ∀ s s', R s s' → s'.inputs = s.inputs)
    (sim : ∀ s s' t, R s s' → step s = .next t → ∃ t', step s' = .next t' ∧ R t t' ∧ t'.out = t.out)
    {n : Nat} {tr : Trace} {u : State} (h : R s s') (hrun : run n s = some (tr, u)) :
    ∃ u', run n s' = some (tr, u') := by
  induction n generalizing s s' tr with
  | zero =>
    obtain ⟨rfl, -⟩ : [] = tr ∧ s = u := by simpa [run] using hrun
    exact ⟨s', rfl⟩
  | succ n ih =>
    obtain ⟨t, tr', hstep, hrest, rfl⟩ := run_succ_iff.1 hrun
    obtain ⟨t', hstep', ht, hout⟩ := sim s s' t h hstep
    obtain ⟨u', hrest'⟩ := ih ht hrest
    exact ⟨u', run_succ_iff.2 ⟨t', tr', hstep', hrest', by rw [inputs s s' h, hout]⟩⟩

/-- Two states that step alike have the same inputs and outputs in every run. -/
theorem run_trace_eq_of_simulation {R : State → State → Prop} (symm : ∀ s s', R s s' → R s' s)
    (inputs : ∀ s s', R s s' → s'.inputs = s.inputs)
    (sim : ∀ s s' t, R s s' → step s = .next t → ∃ t', step s' = .next t' ∧ R t t' ∧ t'.out = t.out)
    (n : Nat) (h : R s s') : (run n s).map (·.1) = (run n s').map (·.1) := by
  refine Option.ext fun tr => ?_
  simp only [Option.map_eq_some_iff, Prod.exists, exists_and_right, exists_eq_right]
  exact ⟨fun ⟨_, hrun⟩ => run_of_simulation inputs sim h hrun,
    fun ⟨_, hrun⟩ => run_of_simulation inputs sim (symm s s' h) hrun⟩

theorem alikeButUnread_load (h : AlikeButUnread s s') (xs : List Inputs) : AlikeButUnread (s.load xs) (s'.load xs) := by
  obtain ⟨lbe, buf, rfl, hlbe, hbuf⟩ := h
  cases xs <;> exact ⟨lbe, buf, rfl, hlbe, hbuf⟩

/-- Settles O59: reset states that differ in the latch and the buffer are alike but for the unread parts, in IDLE and
RESET, and every step keeps them so. -/
theorem resetContentsNeverObserved : Obligations.ResetContentsNeverObserved := by
  intro p lbe lbe' buf buf' xs n
  have alike : AlikeButUnread (State.resetOf p lbe buf) (State.resetOf p lbe' buf') :=
    ⟨lbe', buf', rfl, nofun, fun h => absurd rfl h⟩
  refine run_trace_eq_of_simulation (fun _ _ => alikeButUnread_symm) ?_ stepKeepsAlikeButUnread n
    (alikeButUnread_load alike xs)
  rintro s s' ⟨_, _, rfl, -⟩
  rfl

/-! The Checker's IDLE and ACTIVE. -/

/-- The second state is the first but for the Checker's state, and both Checkers are in RESET or neither is (R183). -/
def AlikeButIdleOrActive (s s' : State) : Prop :=
  ∃ st, (st = .reset ↔ s.chk.st = .reset) ∧ s' = { s with chk := { s.chk with st := st } }

theorem alikeButIdleOrActive_symm (h : AlikeButIdleOrActive s s') : AlikeButIdleOrActive s' s := by
  obtain ⟨st, hst, rfl⟩ := h
  exact ⟨s.chk.st, hst.symm, rfl⟩

theorem alikeButIdleOrActive_endCycle (h : AlikeButIdleOrActive s s') :
    AlikeButIdleOrActive (endCycle s) (endCycle s') := by
  obtain ⟨st, hst, rfl⟩ := h
  refine ⟨st, by simpa using hst, ?_⟩
  simpa using endCycle_setPipelines s s.ins { s.chk with st := st }

/-- A cycle of the Checker reads its state only to tell RESET from the others. -/
theorem chk_of_alikeButIdleOrActive (h : AlikeButIdleOrActive s s') :
    (∃ st, (st = .reset ↔ (chkAfter s).st = .reset) ∧ chkAfter s' = { chkAfter s with st := st }) ∧
      chkOut s' = chkOut s ∧ chkPulse s' = chkPulse s := by
  obtain ⟨st, hst, rfl⟩ := h
  refine ⟨?_, ?_, ?_⟩
  · by_cases hr : s.chk.st = .reset
    · exact ⟨.idle, by simp [chkAfter, hr], by simp [chkAfter, hst, hr]⟩
    cases htakes : chkTakes s
    · refine ⟨st, by simpa [chkAfter, hr, htakes] using hst, ?_⟩
      have htakes' : chkTakes { s with chk := { s.chk with st := st } } = false := htakes
      simp [chkAfter, hst, hr, htakes, htakes']
    · refine ⟨(chkAfter s).st, Iff.rfl, ?_⟩
      have htakes' : chkTakes { s with chk := { s.chk with st := st } } = true := htakes
      simp only [chkAfter, hst, hr, htakes, htakes', if_true, if_false]
      rfl
  · simp only [chkOut, hst]
    rfl
  · simp only [chkPulse, ne_eq, hst]
    rfl

theorem alikeButIdleOrActive_setChk (h : AlikeButIdleOrActive s s') (o : StreamOut) (p : Bool) :
    AlikeButIdleOrActive (s.setChk (chkAfter s) o p) (s'.setChk (chkAfter s') o p) := by
  obtain ⟨⟨st', hst', hafter⟩, -, -⟩ := chk_of_alikeButIdleOrActive h
  rw [hafter]
  obtain ⟨st, -, rfl⟩ := h
  exact ⟨st', hst', rfl⟩

theorem alikeButIdleOrActive_setIns (h : AlikeButIdleOrActive s s') (i : Inserter) (o : StreamOut) :
    AlikeButIdleOrActive (s.setIns i o) (s'.setIns i o) := by
  obtain ⟨st, hst, rfl⟩ := h
  exact ⟨st, hst, rfl⟩

theorem alikeButIdleOrActive_setUnit (h : AlikeButIdleOrActive s s') (crc : List Crc) (o : CycleOut) :
    AlikeButIdleOrActive (s.setUnit crc o) (s'.setUnit crc o) := by
  obtain ⟨st, hst, rfl⟩ := h
  exact ⟨st, hst, rfl⟩

theorem alikeButIdleOrActive_setOut (h : AlikeButIdleOrActive s s') (o : CycleOut) :
    AlikeButIdleOrActive (s.setOut o) (s'.setOut o) := by
  obtain ⟨st, hst, rfl⟩ := h
  exact ⟨st, hst, rfl⟩

/-- Every step keeps two such states alike, with equal outputs. -/
theorem step_alikeButIdleOrActive (alike : AlikeButIdleOrActive s s') (hstep : step s = .next t) :
    ∃ t', step s' = .next t' ∧ AlikeButIdleOrActive t t' ∧ t'.out = t.out := by
  have same : s'.params = s.params ∧ s'.unit = s.unit ∧ s'.ins = s.ins ∧ s'.inputs = s.inputs ∧ s'.draw = s.draw := by
    obtain ⟨st, -, rfl⟩ := alike
    exact ⟨rfl, rfl, rfl, rfl, rfl⟩
  obtain ⟨hp, hu, hi, hx, hd⟩ := same
  cases hsel : s.inputs.sel with
  | comb p =>
    obtain ⟨o, rfl, hstep'⟩ := step_comb_transfer hp hd hu hx hsel hstep
    exact ⟨_, hstep', alikeButIdleOrActive_endCycle (alikeButIdleOrActive_setOut alike o), by simp⟩
  | unit =>
    obtain ⟨crc, o, rfl, hstep'⟩ := step_unit_transfer hp hd hu hx hsel hstep
    exact ⟨_, hstep', alikeButIdleOrActive_endCycle (alikeButIdleOrActive_setUnit alike crc o), by simp⟩
  | inserter =>
    obtain ⟨ready, rfl⟩ := (step_inserter_iff hsel).1 hstep
    have ready' : InsReady s' := by rwa [InsReady, hp, hx]
    have out := insOut_congr hp hd hi (congrArg Inputs.ins hx)
    refine ⟨_, (step_inserter_iff (by rw [hx, hsel])).2 ⟨ready', rfl⟩, ?_, by simp [out]⟩
    rw [out, insAfter_congr hp hi (congrArg Inputs.ins hx)]
    exact alikeButIdleOrActive_endCycle (alikeButIdleOrActive_setIns alike _ _)
  | checker =>
    obtain ⟨ready, rfl⟩ := (step_checker_iff hsel).1 hstep
    have ready' : ChkReady s' := by rwa [ChkReady, hp, hx]
    obtain ⟨-, out, pulse⟩ := chk_of_alikeButIdleOrActive alike
    refine ⟨_, (step_checker_iff (by rw [hx, hsel])).2 ⟨ready', rfl⟩, ?_, by simp [out, pulse]⟩
    rw [out, pulse]
    exact alikeButIdleOrActive_endCycle (alikeButIdleOrActive_setChk alike _ _)

/-- Settles O39: the same machine with its Checker in IDLE and in ACTIVE steps alike. -/
theorem idleAndActiveIndistinguishable : Obligations.IdleAndActiveIndistinguishable := by
  intro n s
  refine run_trace_eq_of_simulation (fun _ _ => alikeButIdleOrActive_symm) ?_
    (fun _ _ _ => step_alikeButIdleOrActive) n ⟨.active, by simp, rfl⟩
  rintro s s' ⟨_, -, rfl⟩
  rfl

end Sys2Proof.Machine
end

section
/-! PROOFS. The decoder over the rows of its classes (R80 to R82), and the operation a cycle selects. -/

namespace Sys2Proof.Machine

open Sys2Proof.Safety

variable {s t : State}

/-- Settles O44: a finite check of the three tables against the decoder. -/
theorem decodeTotalAndUnambiguous : Obligations.DecodeTotalAndUnambiguous := by
  refine ⟨?_, ?_, ?_⟩ <;> decide +kernel

/-- Settles O46: each word is read by the decoder. -/
theorem sampleWordsDecode : Obligations.SampleWordsDecode := by
  unfold Obligations.SampleWordsDecode
  decide +kernel

theorem decode_encode (i : Instr) : decode (encode i) = some i ∧ (encode i).wf = true := by
  cases i <;> decide

/-- A row's match word is the encoder's word for the row's operation (R80). -/
theorem encode_unitctlRows : ∀ r ∈ unitctlRows, encode r.instr = .unitctl r.mtch := by decide

theorem encode_insdecRows : ∀ r ∈ insdecRows, encode r.instr = .insdec r.mtch := by decide

theorem encode_chkdecRows : ∀ r ∈ chkdecRows, encode r.instr = .chkdec r.mtch := by decide

/-- An operation that a class's word decodes to is that of a row of the class which the word matches. -/
theorem exists_row_of_findRow {n : Nat} {rows : List (OpRow n)} {w : BitVec n} {i : Instr}
    (h : (findRow rows w).map (·.instr) = some i) : ∃ r ∈ rows, r.instr = i ∧ w &&& r.mask = r.mtch := by
  obtain ⟨r, hr, rfl⟩ := Option.map_eq_some_iff.1 h
  exact ⟨r, List.mem_of_find?_eq_some hr, rfl, by simpa [rowHits] using List.find?_some hr⟩

/-- Settles O45: a word of a class decodes through a row of it, whose match word the encoder gives. -/
theorem decodeEncodeAgree : Obligations.DecodeEncodeAgree := by
  refine ⟨decode_encode, fun d i h => ?_⟩
  cases d with
  | comb p =>
    have op : some (combOp p) = some i := by cases p <;> exact h
    obtain rfl := Option.some.inj op
    cases p <;> rfl
  | unitctl w =>
    obtain ⟨r, hr, rfl, hits⟩ := exists_row_of_findRow (rows := unitctlRows) h
    rw [encode_unitctlRows r hr]
    exact ⟨r, hr, rfl, rfl, hits⟩
  | insdec w =>
    obtain ⟨r, hr, rfl, hits⟩ := exists_row_of_findRow (rows := insdecRows) h
    rw [encode_insdecRows r hr]
    exact ⟨r, hr, rfl, rfl, hits⟩
  | chkdec w =>
    obtain ⟨r, hr, rfl, hits⟩ := exists_row_of_findRow (rows := chkdecRows) h
    rw [encode_chkdecRows r hr]
    exact ⟨r, hr, rfl, rfl, hits⟩

/-- Settles O47: `insOp` and `chkOp` with the flags `c` and `f` written out. -/
theorem cycleWordSelectsByCondition : Obligations.CycleWordSelectsByCondition := by
  refine ⟨fun s hsel => ?_, fun s hsel => ?_⟩
  · rw [decode_cycleWord_inserter hsel]
    cases s.ins.st with
    | idle | copy => rfl
    | append => simp only [insOp, insFinal_iff]
  · rw [decode_cycleWord_checker hsel, chkOp]
    simp only [chkFull_iff]

end Sys2Proof.Machine
end

section
/-! PROOFS. A step's outcome: a next state, or the refusal of an unadmitted width or of inputs that do not fit, and never
a fault (R6, R82, R200). -/

namespace Sys2Proof.Machine

open Sys2Proof.Safety

variable {s t : State}

/-- Settles O48: the two cases of the script are the two cases of the cycle's end. -/
theorem stepRunsDecodedOperation : Obligations.StepRunsDecodedOperation := by
  refine fun s i hi => ⟨fun t ht => ?_, fun r hr => ?_⟩
  · rw [step_of_exec hi ht]
    cases hscript : t.script with
    | nil => exact ⟨t.inputs, [], by rw [endCycle_script_nil t hscript, ← hscript], .inr ⟨rfl, rfl, rfl⟩⟩
    | cons x rest => exact ⟨x, rest, by rw [endCycle_script_cons t hscript], .inl rfl⟩
  · rw [step_eq_ended hi, ended_refused_iff, hr]

theorem exec_combOp_ne_fault (p : CombPort) (r : Fault) : exec (combOp p) s ≠ .fault r := by
  cases p with
  | engNext =>
    change execEngNext s ≠ .fault r
    unfold execEngNext
    split <;> simp
  | unitValue | unitError => exact onUnit_ne_fault

/-- Settles O49: every cycle's word has an operation, and no shared end faults. -/
theorem stepNeverFaults : Obligations.StepNeverFaults := by
  intro s r
  cases hsel : s.inputs.sel with
  | comb p => rw [step_comb hsel, ne_eq, ended_fault_iff]; exact exec_combOp_ne_fault p r
  | unit => rw [step_unit hsel, ne_eq, ended_fault_iff]; exact onUnit_ne_fault
  | inserter => rw [step_inserter hsel, ne_eq, ended_fault_iff]; exact onInserter_ne_fault
  | checker => rw [step_checker hsel, ne_eq, ended_fault_iff]; exact onChecker_ne_fault

/-- Settles O50: the admitted widths and the ports' widths are what each component's cycle asks for. -/
theorem stepAlwaysCompletes : Obligations.StepAlwaysCompletes := by
  intro s hp hx
  simp only [Params.wf, Bool.and_eq_true] at hp
  simp only [Inputs.wf, Bool.and_eq_true] at hx
  obtain ⟨⟨punit, pins⟩, pchk⟩ := hp
  obtain ⟨⟨⟨xeng, xunit⟩, xins⟩, xchk⟩ := hx
  cases hsel : s.inputs.sel with
  | comb p =>
    have ready : CombReady s p := by
      cases p with
      | engNext => exact xeng
      | unitValue | unitError => exact ⟨punit, xunit⟩
    exact ⟨_, (step_comb_iff hsel).2 ⟨ready, rfl⟩⟩
  | unit => exact ⟨_, (step_unit_iff hsel).2 ⟨⟨punit, xunit⟩, rfl⟩⟩
  | inserter => exact ⟨_, (step_inserter_iff hsel).2 ⟨⟨pins, xins⟩, rfl⟩⟩
  | checker => exact ⟨_, (step_checker_iff hsel).2 ⟨⟨pchk, xchk⟩, rfl⟩⟩

theorem pipelineAdmitted_iff {dwb : Nat} : pipelineAdmitted dwb = true ↔ dwb ∈ [1, 2, 4] := by
  simp [pipelineAdmitted, or_assoc]

theorem unitAdmitted_iff {dwb : Nat} : unitAdmitted dwb = true ↔ dwb ≠ 0 := by
  simp [unitAdmitted, Nat.one_le_iff_ne_zero]

/-- A refusal of an operation is the step's. -/
theorem ended_of_refused {o : Host.Outcome State Fault Refusal} {r : Refusal} (h : o = .refused r) :
    ended o = .refused r :=
  ended_refused_iff.2 h

theorem onInserter_unadmitted (h : ¬ pipelineAdmitted s.params.insDwb = true) (i : Inserter) (o : StreamOut) :
    onInserter s i o = .refused .unadmittedWidth := if_neg h

theorem onInserter_illFormed (h : pipelineAdmitted s.params.insDwb = true)
    (hx : ¬ s.inputs.ins.wf s.params.insDwb = true) (i : Inserter) (o : StreamOut) :
    onInserter s i o = .refused .illFormedInput := (if_pos h).trans (if_neg hx)

theorem onChecker_unadmitted (h : ¬ pipelineAdmitted s.params.chkDwb = true) (c : Checker) (o : StreamOut) (p : Bool) :
    onChecker s c o p = .refused .unadmittedWidth := if_neg h

theorem onChecker_illFormed (h : pipelineAdmitted s.params.chkDwb = true)
    (hx : ¬ s.inputs.chk.wf s.params.chkDwb = true) (c : Checker) (o : StreamOut) (p : Bool) :
    onChecker s c o p = .refused .illFormedInput := (if_pos h).trans (if_neg hx)

theorem onUnit_unadmitted (h : ¬ unitAdmitted s.params.unitDwb = true) (crc : List Crc) (o : CycleOut) :
    onUnit s crc o = .refused .unadmittedWidth := if_neg h

theorem onUnit_illFormed (h : unitAdmitted s.params.unitDwb = true) (hx : ¬ s.inputs.unit.wf s.params.unitDwb = true)
    (crc : List Crc) (o : CycleOut) : onUnit s crc o = .refused .illFormedInput := (if_pos h).trans (if_neg hx)

/-- A cycle of the unit, and an evaluation of one of its two functions, end in the unit's shared end. -/
theorem step_eq_onUnit (h : s.inputs.sel ∈ [.unit, .comb .unitValue, .comb .unitError]) :
    ∃ crc o, step s = ended (onUnit s crc o) := by
  simp only [List.mem_cons, List.not_mem_nil, or_false] at h
  obtain h | h | h := h
  · exact ⟨_, _, step_unit h⟩
  · exact ⟨_, _, step_comb h⟩
  · exact ⟨_, _, step_comb h⟩

/-- Settles O51: the two refusals of each shared end, and the engine's of an empty word. -/
theorem unadmittedInstancesRefused : Obligations.UnadmittedInstancesRefused := by
  refine ⟨?_, ?_, ?_, ?_, ?_, ?_, ?_⟩
  · intro s hsel h
    rw [step_inserter hsel]
    exact ended_of_refused (onInserter_unadmitted (mt pipelineAdmitted_iff.1 h) _ _)
  · intro s hsel h
    rw [step_checker hsel]
    exact ended_of_refused (onChecker_unadmitted (mt pipelineAdmitted_iff.1 h) _ _ _)
  · intro s hsel h
    obtain ⟨crc, o, hstep⟩ := step_eq_onUnit hsel
    rw [hstep]
    exact ended_of_refused (onUnit_unadmitted (fun ha => unitAdmitted_iff.1 ha h) _ _)
  · intro s hsel h hx
    rw [step_inserter hsel]
    exact ended_of_refused (onInserter_illFormed (pipelineAdmitted_iff.2 h) (by simp [hx]) _ _)
  · intro s hsel h hx
    rw [step_checker hsel]
    exact ended_of_refused (onChecker_illFormed (pipelineAdmitted_iff.2 h) (by simp [hx]) _ _ _)
  · intro s hsel h hx
    obtain ⟨crc, o, hstep⟩ := step_eq_onUnit hsel
    rw [hstep]
    exact ended_of_refused (onUnit_illFormed (unitAdmitted_iff.2 h) (by simp [hx]) _ _)
  · intro s hsel h
    have empty : ¬ s.inputs.engine.wf = true := by simp [EngineIn.wf, h]
    rw [step_comb hsel]
    exact ended_of_refused (if_neg empty)

end Sys2Proof.Machine
end

section
/-! PROOFS. The handshake equations of the two pipelines (R224) and what their units do (R140, R170), and an Inserter
chained to a Checker. -/

namespace Sys2Proof.Machine

open Sys2Proof.Safety

variable {s t : State}

theorem insOut_sourceValid_iff : (insOut s).sourceValid = true ↔
    (s.ins.st = .copy ∧ s.inputs.ins.sinkValid = true) ∨ s.ins.st = .append := by
  unfold insOut
  cases s.ins.st with
  | idle => simp [silent]
  | copy => cases s.inputs.ins.sinkValid <;> simp [silent, copyOut]
  | append => simp [appendOut]

theorem insOut_sinkReady_iff (hv : s.inputs.ins.sinkValid = true) :
    (insOut s).sinkReady = true ↔ s.ins.st = .copy ∧ s.inputs.ins.sourceReady = true := by
  unfold insOut
  cases s.ins.st <;> simp [silent, readyIfOffered, copyOut, appendOut, hv]

/-- The Inserter's unit is reset in IDLE, updated with the sink's data when COPY transfers, and held otherwise (R140). -/
theorem insAfter_crc (s : State) : (insAfter s).crc =
    if s.ins.st = .idle then bankReset s.params.insDwb
    else if s.ins.st = .copy ∧ s.inputs.ins.sinkValid = true ∧ s.inputs.ins.sourceReady = true then
      bankUpdate s.params.insDwb s.ins.crc s.inputs.ins.sink.data
    else s.ins.crc := by
  cases hst : s.ins.st with
  | idle => simp [insAfter, hst]
  | copy =>
    simp only [insAfter, hst, Bool.and_eq_true, reduceCtorEq, if_false, true_and]
    split
    · split <;> rfl
    · rfl
  | append =>
    simp only [insAfter, hst, reduceCtorEq, if_false, false_and]
    split
    · split <;> rfl
    · rfl

/-- Settles O28: the equations read off the Inserter's next state and outputs. -/
theorem insDrivesUnitAndHandshake : Obligations.InsDrivesUnitAndHandshake := by
  intro s t hsel hstep
  obtain ⟨-, rfl⟩ := (step_inserter_iff hsel).1 hstep
  refine ⟨by simpa using insAfter_crc s, insOut s, by simp, insOut_sourceValid_iff, insOut_sinkReady_iff⟩

theorem chkTakes_iff : chkTakes s = true ↔ s.inputs.chk.sinkValid = true ∧
    (s.chk.buf.length ≠ Config.ratio s.params.chkDwb ∨ s.inputs.chk.sourceReady = true) := by
  simp [chkTakes, chkFull]

theorem chkOut_sourceValid_iff : (chkOut s).sourceValid = true ↔
    s.chk.st ≠ .reset ∧ s.inputs.chk.sinkValid = true ∧ s.chk.buf.length = Config.ratio s.params.chkDwb := by
  rw [← chkFull_iff]
  unfold chkOut
  by_cases hst : s.chk.st = .reset
  · simp [hst, silent]
  · cases s.inputs.chk.sinkValid <;> cases chkFull s <;> simp [hst, silent]

/-- With an element offered, the Checker is ready exactly when it takes the element (R171, R176). -/
theorem chkOut_sinkReady_of_offered (hv : s.inputs.chk.sinkValid = true) :
    (chkOut s).sinkReady = (decide (s.chk.st ≠ .reset) && chkTakes s) := by
  unfold chkOut chkTakes
  by_cases hst : s.chk.st = .reset
  · simp [hst, silent, readyIfOffered, hv]
  · cases chkFull s <;> simp [hst, silent, hv]

/-- What the Checker accepts in its cycle. -/
theorem sinkXfer_chkOut (s : State) : sinkXfer s.inputs.chk (chkOut s) =
    if s.chk.st ≠ .reset ∧ chkTakes s = true then some s.inputs.chk.sink else none := by
  cases hv : s.inputs.chk.sinkValid
  · simp [sinkXfer_of_not_sinkValid hv, chkTakes, hv]
  · simp [sinkXfer, hv, chkOut_sinkReady_of_offered hv]

/-- Settles O38: the Checker's cycle by what it accepts. -/
theorem chkTransitionsAndHandshake : Obligations.ChkTransitionsAndHandshake := by
  intro s t hsel hstep
  obtain ⟨-, rfl⟩ := (step_checker_iff hsel).1 hstep
  refine ⟨chkOut s, chkPulse s, by simp, chkOut_sourceValid_iff, fun hv => ?_, ?_, ?_⟩
  · simp [chkOut_sinkReady_of_offered hv, chkTakes_iff, hv]
  · rw [sinkXfer_chkOut]
    by_cases hst : s.chk.st = .reset
    · simp [chkAfter, hst]
    · cases htakes : chkTakes s <;> simp [chkAfter, hst, htakes]
  · rw [sinkXfer_chkOut]
    by_cases hst : s.chk.st = .reset
    · simp [chkAfter, hst]
    · cases htakes : chkTakes s <;> simp [chkAfter, hst, htakes, chkFold]

/-! The chain. -/

variable {s' : State}

/-- The forward pass needs no ready (R224): what the Inserter offers does not depend on `source.ready`. -/
theorem insOut_forward (hp : s'.params = s.params) (hd : s'.draw = s.draw) (hi : s'.ins = s.ins)
    (hv : s'.inputs.ins.sinkValid = s.inputs.ins.sinkValid) (he : s'.inputs.ins.sink = s.inputs.ins.sink) :
    (insOut s').sourceValid = (insOut s).sourceValid ∧ (insOut s').source = (insOut s).source := by
  have trailer : trailerElement s' = trailerElement s := by
    unfold trailerElement insValue insFinal
    rw [hp, hd, hi]
  unfold insOut
  rw [hp, hd, hi, hv]
  cases s.ins.st with
  | idle => exact ⟨rfl, rfl⟩
  | copy =>
    cases s.inputs.ins.sinkValid
    · exact ⟨rfl, rfl⟩
    · exact ⟨rfl, congrArg passed he⟩
  | append => exact ⟨rfl, trailer⟩

/-- The backward pass: with an element offered, the Checker's ready does not depend on the draw. -/
theorem chkOut_sinkReady_backward (hp : s'.params = s.params) (hc : s'.chk = s.chk)
    (hx : s'.inputs.chk = s.inputs.chk) (hv : s.inputs.chk.sinkValid = true) :
    (chkOut s').sinkReady = (chkOut s).sinkReady := by
  rw [chkOut_sinkReady_of_offered hv, chkOut_sinkReady_of_offered (by rw [hx, hv])]
  unfold chkTakes chkFull
  rw [hp, hc, hx]

theorem insPort_eq {o : StreamOut} (h : insPort s = some o) : o = insOut s := by
  unfold insPort at h
  split at h
  next t hstep =>
    obtain ⟨-, rfl⟩ := (step_inserter_iff rfl).1 hstep
    simp only [endCycle_out, State.setIns_out, Option.some.injEq] at h
    exact h.symm.trans (insOut_congr rfl rfl rfl rfl)
  · simp at h
  · simp at h

theorem chkPort_eq {q : StreamOut} (h : chkPort s = some q) : q = chkOut s := by
  unfold chkPort at h
  split at h
  next t hstep =>
    obtain ⟨-, rfl⟩ := (step_checker_iff rfl).1 hstep
    simp only [endCycle_out, State.setChk_out, Option.some.injEq] at h
    exact h.symm.trans (chkOut_congr rfl rfl rfl rfl)
  · simp at h
  · simp at h

/-- The inputs of a chained cycle: each port is given what the other component shows for it. -/
theorem chainInputs_eq {valid ready : Bool} {e : Element} {x : Inputs} (h : chainInputs s valid e ready = some x) :
    ∃ a b : State, (a.params = s.params ∧ a.draw = s.draw ∧ a.ins = s.ins ∧ a.inputs.ins = ⟨valid, e, false⟩) ∧
      (b.params = s.params ∧ b.chk = s.chk ∧ b.inputs.chk = x.chk) ∧
      x.ins = ⟨valid, e, (chkOut b).sinkReady⟩ ∧ x.chk = ⟨(insOut a).sourceValid, (insOut a).source, ready⟩ := by
  unfold chainInputs at h
  split at h
  · simp at h
  next o ho =>
    split at h
    · simp at h
    next q hq =>
      obtain rfl := Option.some.inj h
      exact ⟨{ s with inputs := { s.inputs with ins := ⟨valid, e, false⟩ } },
        { s with inputs := { s.inputs with chk := ⟨o.sourceValid, o.source, ready⟩ } }, ⟨rfl, rfl, rfl, rfl⟩,
        ⟨rfl, rfl, rfl⟩, by rw [← chkPort_eq hq], by rw [← insPort_eq ho]⟩

/-- The outputs of a chained cycle: those of the Inserter's cycle and of the Checker's, on the chain's inputs. -/
theorem chainCycle_eq {valid ready : Bool} {e : Element} {u : State} {x : Inputs} {o q : CycleOut}
    (h : chainCycle s valid e ready = some (u, x, o, q)) :
    chainInputs s valid e ready = some x ∧ ∃ a b : State,
      (a.params = s.params ∧ a.draw = s.draw ∧ a.ins = s.ins ∧ a.inputs.ins = x.ins) ∧
      (b.params = s.params ∧ b.chk = s.chk ∧ b.inputs.chk = x.chk) ∧
      o = .inserter (insOut a) ∧ q = .checker (chkOut b) (chkPulse b) := by
  unfold chainCycle at h
  split at h
  · simp at h
  next y hy =>
    split at h
    next t ht =>
      split at h
      next v hv =>
        simp only [Option.some.injEq, Prod.mk.injEq] at h
        obtain ⟨rfl, rfl, rfl, rfl⟩ := h
        obtain ⟨-, rfl⟩ := (step_inserter_iff rfl).1 ht
        obtain ⟨-, rfl⟩ := (step_checker_iff rfl).1 hv
        refine ⟨hy, _, _, ?_, ?_, rfl, rfl⟩
        · exact ⟨rfl, rfl, rfl, rfl⟩
        · exact ⟨rfl, rfl, rfl⟩
      · simp at h
      · simp at h
    · simp at h
    · simp at h

/-- Settles O43: the Inserter's cycle offers what the forward pass found, and the Checker's cycle is ready as the
backward pass found. -/
theorem chainTransfersAgree : Obligations.ChainTransfersAgree := by
  intro s u valid ready e x o q _ h
  obtain ⟨hinputs, a, b, ⟨ap, ad, ai, ax⟩, ⟨bp, bc, bx⟩, rfl, rfl⟩ := chainCycle_eq h
  obtain ⟨a', b', ⟨ap', ad', ai', ax'⟩, ⟨bp', bc', bx'⟩, xins, xchk⟩ := chainInputs_eq hinputs
  obtain ⟨hvalid, hsource⟩ := insOut_forward (s := a') (s' := a) (ap.trans ap'.symm) (ad.trans ad'.symm)
    (ai.trans ai'.symm) (by rw [ax, ax', xins]) (by rw [ax, ax', xins])
  change sourceXfer x.ins (insOut a) = sinkXfer x.chk (chkOut b)
  rw [sourceXfer, sinkXfer, hvalid, hsource, xins, xchk]
  cases hv : (insOut a').sourceValid with
  | false => rfl
  | true =>
    have back := chkOut_sinkReady_backward (s := b') (s' := b) (bp.trans bp'.symm) (bc.trans bc'.symm)
      (bx.trans bx'.symm) (by rw [bx', xchk]; exact hv)
    simp only [back]

end Sys2Proof.Machine
end

section
/-! PROOFS. The error bits of elements are carried and never read but into other error bits (R202, R204): clearing them
before a cycle and after it gives the same state. -/

namespace Sys2Proof.Machine

open Sys2Proof.Safety

variable {s t t' : State}

@[simp] theorem clearElement_clearElement (e : Element) : clearElement (clearElement e) = clearElement e := rfl

@[simp] theorem clearInputs_clearInputs (x : Inputs) : clearInputs (clearInputs x) = clearInputs x := rfl

theorem clearOut_clearOut (o : CycleOut) : clearOut (clearOut o) = clearOut o := by cases o <;> rfl

theorem map_clearElement_idem (b : List Element) : (b.map clearElement).map clearElement = b.map clearElement := by
  simp [Function.comp_def]

theorem clearErrors_clearErrors (s : State) : clearErrors (clearErrors s) = clearErrors s := by
  simp [clearErrors, clearOut_clearOut, Function.comp_def]

theorem clearErrors_endCycle (s : State) : clearErrors (endCycle s) = endCycle (clearErrors s) := by
  cases h : s.script <;> simp [clearErrors, endCycle, h]

theorem pulses_clearOut (o : CycleOut) : pulses (clearOut o) = pulses o := by cases o <;> rfl

theorem handshake_clearOut (o : CycleOut) : handshake (clearOut o) = handshake o := by cases o <;> rfl

/-- States that are the same but for error bits have outputs that are the same but for error bits. -/
theorem out_of_clearErrors_eq (h : clearErrors t' = clearErrors t) :
    clearOut t'.out = clearOut t.out ∧ pulses t'.out = pulses t.out ∧ handshake t'.out = handshake t.out := by
  have out : clearOut t'.out = clearOut t.out := congrArg State.out h
  exact ⟨out, by rw [← pulses_clearOut, out, pulses_clearOut], by rw [← handshake_clearOut, out, handshake_clearOut]⟩

/-! The four updates of State. -/

theorem clearErrors_setOut {o o' : CycleOut} (h : clearOut o' = clearOut o) :
    clearErrors ((clearErrors s).setOut o') = clearErrors (s.setOut o) := by
  calc clearErrors ((clearErrors s).setOut o') = (clearErrors (clearErrors s)).setOut (clearOut o') := rfl
    _ = clearErrors (s.setOut o) := by rw [clearErrors_clearErrors, h]; rfl

theorem clearErrors_setUnit (crc : List Crc) {o o' : CycleOut} (h : clearOut o' = clearOut o) :
    clearErrors ((clearErrors s).setUnit crc o') = clearErrors (s.setUnit crc o) := by
  calc clearErrors ((clearErrors s).setUnit crc o') = (clearErrors (clearErrors s)).setUnit crc (clearOut o') := rfl
    _ = clearErrors (s.setUnit crc o) := by rw [clearErrors_clearErrors, h]; rfl

theorem clearErrors_setIns (i : Inserter) {o o' : StreamOut} (h : clearOut (.inserter o') = clearOut (.inserter o)) :
    clearErrors ((clearErrors s).setIns i o') = clearErrors (s.setIns i o) := by
  calc clearErrors ((clearErrors s).setIns i o')
      = { clearErrors (clearErrors s) with ins := i, out := clearOut (.inserter o') } := rfl
    _ = clearErrors (s.setIns i o) := by rw [clearErrors_clearErrors, h]; rfl

theorem clearErrors_setChk {c c' : Checker} {o o' : StreamOut} (p : Bool)
    (hc : { c' with buf := c'.buf.map clearElement } = { c with buf := c.buf.map clearElement })
    (h : clearOut (.checker o' p) = clearOut (.checker o p)) :
    clearErrors ((clearErrors s).setChk c' o' p) = clearErrors (s.setChk c o p) := by
  calc clearErrors ((clearErrors s).setChk c' o' p)
      = { clearErrors (clearErrors s) with
          chk := { c' with buf := c'.buf.map clearElement }, out := clearOut (.checker o' p) } := rfl
    _ = clearErrors (s.setChk c o p) := by rw [clearErrors_clearErrors, hc, h]; rfl

/-! The Inserter. -/

theorem insAfter_clearErrors (s : State) : insAfter (clearErrors s) = insAfter s := rfl

theorem insOut_clearErrors (s : State) :
    clearOut (.inserter (insOut (clearErrors s))) = clearOut (.inserter (insOut s)) := by
  have st : (clearErrors s).ins.st = s.ins.st := rfl
  have valid : (clearErrors s).inputs.ins.sinkValid = s.inputs.ins.sinkValid := rfl
  unfold insOut
  rw [st, valid]
  cases s.ins.st with
  | idle | append => rfl
  | copy => cases s.inputs.ins.sinkValid <;> rfl

/-! The Checker. -/

theorem chkFull_clearErrors (s : State) : chkFull (clearErrors s) = chkFull s := by
  simp [chkFull, clearErrors]

theorem chkTakes_clearErrors (s : State) : chkTakes (clearErrors s) = chkTakes s := by
  rw [chkTakes, chkFull_clearErrors]
  rfl

theorem chkPulse_clearErrors (s : State) : chkPulse (clearErrors s) = chkPulse s := by
  rw [chkPulse, chkFull_clearErrors, chkTakes_clearErrors]
  rfl

theorem map_push (b : List Element) (e : Element) :
    (push b e).map clearElement = push (b.map clearElement) (clearElement e) :=
  List.map_append

theorem map_pop (b : List Element) : (pop b).map clearElement = pop (b.map clearElement) := List.map_tail

/-- The Checker after a cycle on cleared elements: the same state and bank, and the same elements but for their error
bits. -/
theorem chkAfter_clearErrors (s : State) :
    chkAfter (clearErrors s) = { chkAfter s with buf := (chkAfter s).buf.map clearElement } := by
  have chk : (clearErrors s).chk = { s.chk with buf := s.chk.buf.map clearElement } := rfl
  unfold chkAfter
  rw [chkTakes_clearErrors, chkFull_clearErrors, chk]
  dsimp only
  split
  · rfl
  · split
    · rw [map_push]
      cases chkFull s
      · rfl
      · simp only [if_true, map_pop]
        rfl
    · rfl

/-- The oldest element is shown with the same data, `last` and `last_be`, whatever its error bit. -/
theorem clearElement_released (s : State) (last : Bool) (f g : Element → Bool) :
    clearElement (released (clearErrors s) last f) = clearElement (released s last g) := by
  have buf : (clearErrors s).chk.buf = s.chk.buf.map clearElement := rfl
  unfold released
  rw [buf]
  cases s.chk.buf <;> rfl

theorem chkOut_clearErrors (s : State) (p : Bool) :
    clearOut (.checker (chkOut (clearErrors s)) p) = clearOut (.checker (chkOut s) p) := by
  have st : (clearErrors s).chk.st = s.chk.st := rfl
  have valid : (clearErrors s).inputs.chk.sinkValid = s.inputs.chk.sinkValid := rfl
  unfold chkOut
  rw [st, valid, chkFull_clearErrors]
  split
  · rfl
  · split
    · split
      · exact congrArg (fun e => CycleOut.checker ⟨s.inputs.chk.sourceReady, true, e⟩ p) (clearElement_released s _ _ _)
      · rfl
    · rfl

/-- Settles O58: the cleared machine's cycle has the same effect but for error bits, component by component. -/
theorem errorBitsChangeNothingElse : Obligations.ErrorBitsChangeNothingElse := by
  intro s t hstep
  suffices h : ∃ t', step (clearErrors s) = .next t' ∧ clearErrors t' = clearErrors t by
    obtain ⟨t', hstep', same⟩ := h
    exact ⟨t', hstep', same, out_of_clearErrors_eq same⟩
  cases hsel : s.inputs.sel with
  | comb p =>
    obtain ⟨ready, rfl⟩ := (step_comb_iff hsel).1 hstep
    have ready' : CombReady (clearErrors s) p := by cases p <;> exact ready
    have out : combOut (clearErrors s) p = combOut s p := by cases p <;> rfl
    refine ⟨_, (step_comb_iff (s := clearErrors s) hsel).2 ⟨ready', rfl⟩, ?_⟩
    rw [clearErrors_endCycle, clearErrors_endCycle, out, clearErrors_setOut rfl]
  | unit =>
    obtain ⟨ready, rfl⟩ := (step_unit_iff hsel).1 hstep
    refine ⟨_, (step_unit_iff (s := clearErrors s) hsel).2 ⟨ready, rfl⟩, ?_⟩
    rw [clearErrors_endCycle, clearErrors_endCycle]
    exact congrArg endCycle (clearErrors_setUnit (unitAfter s) rfl)
  | inserter =>
    obtain ⟨ready, rfl⟩ := (step_inserter_iff hsel).1 hstep
    refine ⟨_, (step_inserter_iff (s := clearErrors s) hsel).2 ⟨ready, rfl⟩, ?_⟩
    rw [clearErrors_endCycle, clearErrors_endCycle]
    exact congrArg endCycle (clearErrors_setIns (insAfter s) (insOut_clearErrors s))
  | checker =>
    obtain ⟨ready, rfl⟩ := (step_checker_iff hsel).1 hstep
    refine ⟨_, (step_checker_iff (s := clearErrors s) hsel).2 ⟨ready, rfl⟩, ?_⟩
    rw [clearErrors_endCycle, clearErrors_endCycle, chkPulse_clearErrors, chkAfter_clearErrors,
      clearErrors_setChk _ ?_ (chkOut_clearErrors s _)]
    rw [map_clearElement_idem]

end Sys2Proof.Machine
end

section
/-! PROOFS. The operations of the CRC32Unit, each in the cycle that selects it (R122 to R129). -/

namespace Sys2Proof.Machine

open Sys2Proof.Safety

variable {s : State}

theorem onUnit_of_unitReady (h : UnitReady s) (crc : List Crc) (o : CycleOut) :
    onUnit s crc o = .next (s.setUnit crc o) :=
  onUnit_next_iff.2 ⟨h, rfl⟩

/-- R127: the selected register's output form. -/
theorem unitValuePort_of_laneSel {dwb k : Nat} {crc : List Crc} {be : LaneMask} {r : Crc} (hk : laneSel dwb be = some k)
    (hr : crc[k]? = some r) (draw : Nat) : unitValuePort dwb crc be draw = crcOutput r := by
  simp only [unitValuePort, hk, laneReg_of_getElem? hr]

/-- R128: the selected lane's next state is compared with the residue, whatever the lane's own register. -/
theorem unitErrorPort_of_laneSel {dwb k : Nat} {crc : List Crc} {be : LaneMask} {top : Crc} (d : Lanes)
    (hk : laneSel dwb be = some k) (htop : crc[dwb - 1]? = some top) (draw : Nat) :
    unitErrorPort dwb crc d be draw = (fold top (d.take (k + 1)) != Config.residue) := by
  simp only [unitErrorPort, hk, laneNext, laneReg_of_getElem? htop, subWord, fold]

/-- Bit `i` of the output form is the complement of bit `31 - i` of the register (R11, R127). -/
theorem crcOutput_getLsbD (r : Crc) {i : Nat} (hi : i < 32) : (crcOutput r).getLsbD i = !(r.getLsbD (31 - i)) := by
  rw [crcOutput, rev32, BitVec.getLsbD_not, BitVec.getLsbD_reverse, BitVec.getMsbD_eq_getLsbD]
  simp [hi]

/-- Both ports of a clocked cycle show the registers before it. -/
theorem unitPorts_eq (s : State) :
    ∃ v e, unitPorts s = .unit v e ∧ ∀ k, laneSel s.params.unitDwb s.inputs.unit.lastBe = some k →
      (∀ r, s.unit[k]? = some r → v = crcOutput r) ∧
      (∀ top, s.unit[s.params.unitDwb - 1]? = some top →
        e = (fold top (s.inputs.unit.data.take (k + 1)) != 0xC704DD7B#32)) :=
  ⟨_, _, rfl, fun _ hk =>
    ⟨fun _ hr => unitValuePort_of_laneSel hk hr _, fun _ htop => unitErrorPort_of_laneSel _ hk htop _⟩⟩

/-- The operation of a unit's cycle with the given controls. -/
theorem decode_of_unitCycle {reset enable : Bool} (h : UnitCycle s reset enable) :
    decode (cycleWord s) = some (unitOp reset enable) := by
  obtain ⟨-, hsel, hreset, henable⟩ := h
  rw [decode_cycleWord_unit hsel, hreset, henable]

/-- Settles O11: INIT in every lane, whose output form is 0. -/
theorem unitResetResult : Obligations.UnitResetResult := by
  refine ⟨fun s enable cycle => ?_, fun dwb k draw be hbe hdwb hk => ?_⟩
  · obtain ⟨v, e, ports, values⟩ := unitPorts_eq s
    refine ⟨decode_of_unitCycle cycle, v, e, ?_, values⟩
    rw [← ports]
    exact onUnit_of_unitReady cycle.1 (bankReset s.params.unitDwb) (unitPorts s)
  · have hr : (List.replicate dwb 0xFFFFFFFF#32)[k]? = some 0xFFFFFFFF#32 := by simp [laneSel_lt hbe hdwb hk]
    rw [unitValuePort_of_laneSel hk hr]
    decide +kernel

/-- Settles O12: UNIT_UPDATE folds every lane from the widest register; the ports are those of the old registers. -/
theorem unitUpdateResult : Obligations.UnitUpdateResult := by
  intro s top cycle htop
  obtain ⟨v, e, ports, values⟩ := unitPorts_eq s
  refine ⟨decode_of_unitCycle cycle, v, e, ?_, fun k hk => ⟨(values k hk).1, (values k hk).2 top htop⟩⟩
  rw [← ports, ← bankUpdate_eq_foldLanes htop]
  exact onUnit_of_unitReady cycle.1 _ _

/-- Settles O13: UNIT_HOLD writes back the bank it read. -/
theorem unitHoldResult : Obligations.UnitHoldResult := by
  intro s cycle
  obtain ⟨v, e, ports, values⟩ := unitPorts_eq s
  refine ⟨decode_of_unitCycle cycle, v, e, ?_, values⟩
  rw [← ports]
  exact onUnit_of_unitReady cycle.1 s.unit _

/-- Settles O14: the port's value is the selected register's output form, read bit by bit. -/
theorem unitValueResult : Obligations.UnitValueResult := by
  intro s ready
  refine ⟨_, onUnit_of_unitReady ready s.unit _, fun k r hk hr i hi => ?_⟩
  rw [unitValuePort_of_laneSel hk hr, crcOutput_getLsbD r hi]

/-- Settles O15: the port's bit is the residue test of the selected lane. -/
theorem unitErrorResult : Obligations.UnitErrorResult := by
  intro s ready
  refine ⟨_, onUnit_of_unitReady ready s.unit _, fun k top hk htop => ?_⟩
  rw [unitErrorPort_of_laneSel _ hk htop, bne_eq_false_iff_eq]
  rfl

end Sys2Proof.Machine
end

section
/-! PROOFS. The operations of the Inserter, each in the cycle that selects it (R141 to R149). -/

namespace Sys2Proof.Machine

open Sys2Proof.Safety

variable {s : State} {st : InsState}

/-- The operation of an Inserter's cycle in the given state. -/
theorem decode_of_insCycle (h : InsCycle s st) : decode (cycleWord s) =
    some (insOp st s.inputs.ins.sinkValid s.inputs.ins.sink.last s.inputs.ins.sourceReady (insFinal s)) := by
  rw [cycleWord_of_insCycle h, decode_insdec]

theorem sinkXfer_of_not_sinkReady (x : StreamIn) {o : StreamOut} (h : o.sinkReady = false) : sinkXfer x o = none := by
  simp [sinkXfer, h]

theorem sourceXfer_of_not_sourceReady {x : StreamIn} (h : x.sourceReady = false) (o : StreamOut) :
    sourceXfer x o = none := by
  simp [sourceXfer, h]

theorem sourceXfer_of_ready {x : StreamIn} {o : StreamOut} (hx : x.sourceReady = true) (ho : o.sourceValid = true) :
    sourceXfer x o = some o.source := by
  simp [sourceXfer, hx, ho]

/-- APPEND takes no element: one that is offered waits (R147 to R149). -/
theorem sinkXfer_appendOut (s : State) : sinkXfer s.inputs.ins (appendOut s) = none := by
  cases hv : s.inputs.ins.sinkValid
  · exact sinkXfer_of_not_sinkValid hv _
  · exact sinkXfer_of_not_sinkReady _ (by simp [appendOut, readyIfOffered, hv])

/-- R151, R152: the trailer's data are the chunks of the latched lane's CRC. -/
theorem trailerElement_data {k : Nat} {r : Crc} (hk : laneSel s.params.insDwb s.ins.lbe = some k)
    (hr : s.ins.crc[k]? = some r) : (trailerElement s).data = chunk s.params.insDwb (crcOutput r) s.ins.cnt := by
  rw [trailerElement, insValue, unitValuePort_of_laneSel hk hr]

theorem trailerElement_of_final (h : insFinal s = true) : trailerElement s =
    ⟨(trailerElement s).data, true, oneHot s.params.insDwb (s.params.insDwb - 1), false⟩ := by
  simp [trailerElement, h]

theorem trailerElement_of_not_final (h : insFinal s = false) : trailerElement s =
    ⟨(trailerElement s).data, false, noLanes s.params.insDwb, false⟩ := by
  simp [trailerElement, h]

/-- Settles O19: INS_IDLE_WAIT resets the unit and `cnt`, and neither handshake completes. -/
theorem insIdleWaitResult : Obligations.InsIdleWaitResult := by
  intro s cycle hvalid
  refine ⟨by rw [decode_of_insCycle cycle, hvalid]; rfl, silent s.params.insDwb s.draw (Config.freeSinkReady s.draw), ?_,
    rfl, sourceXfer_of_not_sourceValid _ rfl, sinkXfer_of_not_sinkValid hvalid _⟩
  exact onInserter_of_insReady cycle.1 _ _

/-- Settles O20: INS_IDLE_START moves on to COPY with `sink.ready` low. -/
theorem insIdleStartResult : Obligations.InsIdleStartResult := by
  intro s cycle hvalid
  refine ⟨by rw [decode_of_insCycle cycle, hvalid]; rfl, silent s.params.insDwb s.draw false, ?_, rfl, rfl,
    sourceXfer_of_not_sourceValid _ rfl, sinkXfer_of_not_sinkReady _ rfl⟩
  exact onInserter_of_insReady cycle.1 _ _

/-- Settles O22: INS_COPY_STALL writes back the Inserter it read. -/
theorem insCopyStallResult : Obligations.InsCopyStallResult := by
  intro s cycle hvalid hready
  refine ⟨by rw [decode_of_insCycle cycle, hvalid, hready]; rfl, ?_⟩
  exact onInserter_of_insReady cycle.1 s.ins (copyOut s false)

/-- Settles O24: INS_COPY_LAST folds every lane from the widest register, latches the mask and moves on to APPEND. -/
theorem insCopyLastResult : Obligations.InsCopyLastResult := by
  intro s top cycle hvalid hlast hready htop
  refine ⟨by rw [decode_of_insCycle cycle, hvalid, hlast, hready]; rfl, ?_⟩
  rw [← bankUpdate_eq_foldLanes htop]
  exact onInserter_of_insReady cycle.1 _ (copyOut s true)

/-- Settles O25: INS_APPEND_STALL shows the trailer element and writes back the Inserter it read. -/
theorem insAppendStallResult : Obligations.InsAppendStallResult := by
  intro s cycle hready
  refine ⟨by rw [decode_of_insCycle cycle, hready]; rfl, appendOut s, onInserter_of_insReady cycle.1 s.ins _, rfl,
    sourceXfer_of_not_sourceReady hready _, sinkXfer_appendOut s, rfl, rfl, ?_, fun k r => trailerElement_data⟩
  simp only [appendOut, trailerElement, insFinal_iff]
  rfl

/-- Settles O26: below the last chunk the trailer element has no `last` and no lane, and `cnt` counts on. -/
theorem insAppendChunkResult : Obligations.InsAppendChunkResult := by
  intro s cycle hready hcnt
  have final : insFinal s = false := by
    rw [← Bool.not_eq_true, insFinal_iff]
    omega
  refine ⟨by rw [decode_of_insCycle cycle, hready, final]; rfl, appendOut s, onInserter_of_insReady cycle.1 _ _, ?_,
    sinkXfer_appendOut s, fun k r => trailerElement_data⟩
  rw [sourceXfer_of_ready hready rfl]
  exact congrArg some (trailerElement_of_not_final final)

/-- Settles O27: the last chunk's trailer element has `last` and the top lane, and the Inserter is in IDLE after it. -/
theorem insAppendFinalResult : Obligations.InsAppendFinalResult := by
  intro s cycle hready hcnt
  have final : insFinal s = true := by
    rw [insFinal_iff]
    omega
  refine ⟨by rw [decode_of_insCycle cycle, hready, final]; rfl, appendOut s, onInserter_of_insReady cycle.1 _ _, ?_,
    sinkXfer_appendOut s, fun k r => trailerElement_data⟩
  rw [sourceXfer_of_ready hready rfl]
  exact congrArg some (trailerElement_of_final final)

end Sys2Proof.Machine
end

section
/-! PROOFS. The operations of the Checker, each in the cycle that selects it (R176 to R182). -/

namespace Sys2Proof.Machine

open Sys2Proof.Safety

variable {s : State}

theorem onChecker_of_chkReady (h : ChkReady s) (c : Checker) (o : StreamOut) (p : Bool) :
    onChecker s c o p = .next (s.setChk c o p) :=
  onChecker_next_iff.2 ⟨h, rfl⟩

/-- The operation of a Checker's cycle outside RESET. -/
theorem decode_of_chkCycle (h : ChkCycle s) : decode (cycleWord s) =
    some (chkOp .active s.inputs.chk.sinkValid s.inputs.chk.sink.last s.inputs.chk.sourceReady (chkFull s)) := by
  obtain ⟨-, hsel, hst⟩ := h
  rw [decode_cycleWord_checker hsel]
  simp [chkOp, hst]

theorem chkFull_of_buf {b : Element} {rest : List Element} (hbuf : s.chk.buf = b :: rest)
    (hlen : (b :: rest).length = Config.ratio s.params.chkDwb) : chkFull s = true := by
  rw [chkFull_iff, hbuf, hlen]

theorem chkFull_of_lt (h : s.chk.buf.length < Config.ratio s.params.chkDwb) : chkFull s = false := by
  rw [← Bool.not_eq_true, chkFull_iff]
  omega

theorem released_of_buf {b : Element} {rest : List Element} (hbuf : s.chk.buf = b :: rest) (last : Bool)
    (err : Element → Bool) : released s last err = ⟨b.data, last, b.lastBe, err b⟩ := by
  simp only [released, hbuf]

theorem chkFold_eq_foldLanes {top : Crc} (htop : s.chk.crc[s.params.chkDwb - 1]? = some top) :
    chkFold s = foldLanes s.params.chkDwb top s.inputs.chk.sink.data :=
  bankUpdate_eq_foldLanes htop _

/-- R174: the residue test on the lane that the incoming element's mask selects. -/
theorem chkCrcErr_of_laneSel {k : Nat} {top : Crc} (hk : laneSel s.params.chkDwb s.inputs.chk.sink.lastBe = some k)
    (htop : s.chk.crc[s.params.chkDwb - 1]? = some top) :
    chkCrcErr s = (fold top (s.inputs.chk.sink.data.take (k + 1)) != 0xC704DD7B#32) :=
  unitErrorPort_of_laneSel _ hk htop _

/-- Settles O31: CHK_RESET empties the buffer, with `sink.ready` low for an offered element. -/
theorem chkResetResult : Obligations.ChkResetResult := by
  intro s ready hsel hst
  refine ⟨by rw [decode_cycleWord_checker hsel, hst]; rfl,
    silent s.params.chkDwb s.draw (readyIfOffered s.inputs.chk false s.draw), onChecker_of_chkReady ready _ _ _, rfl,
    sourceXfer_of_not_sourceValid _ rfl, ?_⟩
  cases hv : s.inputs.chk.sinkValid
  · exact sinkXfer_of_not_sinkValid hv _
  · exact sinkXfer_of_not_sinkReady _ (by simp [silent, readyIfOffered, hv])

/-- Settles O32: CHK_WAIT writes back the Checker it read. -/
theorem chkWaitResult : Obligations.ChkWaitResult := by
  intro s cycle hvalid
  refine ⟨by rw [decode_of_chkCycle cycle, hvalid]; rfl, silent s.params.chkDwb s.draw (Config.freeSinkReady s.draw),
    onChecker_of_chkReady cycle.1 s.chk _ _, rfl, sourceXfer_of_not_sourceValid _ rfl,
    sinkXfer_of_not_sinkValid hvalid _⟩

/-- Settles O33: CHK_FILL folds and pushes the element, and is ACTIVE after it. -/
theorem chkFillResult : Obligations.ChkFillResult := by
  intro s top cycle hvalid hlast hroom htop
  refine ⟨by rw [decode_of_chkCycle cycle, hvalid, hlast, chkFull_of_lt hroom]; rfl, silent s.params.chkDwb s.draw true,
    ?_, rfl, rfl, by simp [sinkXfer, silent, hvalid]⟩
  rw [← chkFold_eq_foldLanes htop, ← activated_of_ne_reset cycle.2.2]
  exact onChecker_of_chkReady cycle.1 _ _ _

/-- Settles O34: CHK_FILL_LAST folds and pushes the element, and is in RESET after it. -/
theorem chkFillLastResult : Obligations.ChkFillLastResult := by
  intro s top cycle hvalid hlast hroom htop
  refine ⟨by rw [decode_of_chkCycle cycle, hvalid, hlast, chkFull_of_lt hroom]; rfl, silent s.params.chkDwb s.draw true,
    ?_, rfl, rfl, by simp [sinkXfer, silent, hvalid]⟩
  rw [← chkFold_eq_foldLanes htop]
  exact onChecker_of_chkReady cycle.1 _ _ _

/-- Settles O35: CHK_STALL shows the oldest element with R173's error bit and writes back the Checker it read. -/
theorem chkStallResult : Obligations.ChkStallResult := by
  intro s b rest cycle hvalid hready hbuf hlen
  refine ⟨by rw [decode_of_chkCycle cycle, hvalid, hready, chkFull_of_buf hbuf hlen]; rfl, chkSourceError s b, ?_, ?_,
    ?_⟩
  · rw [← released_of_buf hbuf]
    exact onChecker_of_chkReady cycle.1 s.chk _ _
  · intro hlast
    simp [chkSourceError, hlast]
  · intro k top hlast hk htop
    simp [chkSourceError, hlast, chkFinalError, hbuf, chkCrcErr_of_laneSel hk htop]

/-- Settles O36: CHK_PASS releases the oldest element as it is, but for `last`, and pushes the incoming one. -/
theorem chkPassResult : Obligations.ChkPassResult := by
  intro s b rest top cycle hvalid hlast hready hbuf hlen htop
  refine ⟨by rw [decode_of_chkCycle cycle, hvalid, hlast, hready, chkFull_of_buf hbuf hlen]; rfl, ?_⟩
  have popped : pop s.chk.buf = rest := by rw [hbuf, pop, List.tail_cons]
  rw [← chkFold_eq_foldLanes htop, ← activated_of_ne_reset cycle.2.2, ← popped,
    ← released_of_buf hbuf false (·.error)]
  exact onChecker_of_chkReady cycle.1 _ _ _

/-- Settles O37: CHK_PASS_LAST releases the oldest element with the OR of R173, and its residue test is the pulse. -/
theorem chkPassLastResult : Obligations.ChkPassLastResult := by
  intro s b rest top cycle hvalid hlast hready hbuf hlen htop
  refine ⟨by rw [decode_of_chkCycle cycle, hvalid, hlast, hready, chkFull_of_buf hbuf hlen]; rfl, chkCrcErr s, ?_,
    fun k hk => chkCrcErr_of_laneSel hk htop⟩
  have popped : pop s.chk.buf = rest := by rw [hbuf, pop, List.tail_cons]
  have shown := released_of_buf hbuf true (fun _ => chkFinalError s)
  rw [chkFinalError] at shown
  rw [← chkFold_eq_foldLanes htop, ← hbuf, ← popped, ← shown]
  exact onChecker_of_chkReady cycle.1 _ _ _

end Sys2Proof.Machine
end

section
/-! PROOFS. The engine is linear over GF(2) in its state and its data together (40_engine): one step by its bits (R101),
composition (R106), and the columns (R105). -/

namespace Sys2Proof.Machine

open Sys2Proof.Safety

/-! One step. -/

theorem ite_poly_getLsbD (c : Bool) (j : Nat) :
    (if c then Config.poly else 0#32).getLsbD j = (c && Config.poly.getLsbD j) := by
  cases c <;> simp

theorem crcStep_getLsbD_zero (s : Crc) (b : Bool) : (crcStep s b).getLsbD 0 = (s.getLsbD 31 ^^ b) := by
  have tap : Config.poly.getLsbD 0 = true := by decide
  rw [crcStep, BitVec.getLsbD_xor, BitVec.getLsbD_shiftLeft, ite_poly_getLsbD, tap]
  simp

theorem crcStep_getLsbD_succ (s : Crc) (b : Bool) {j : Nat} (hj : j < 31) :
    (crcStep s b).getLsbD (j + 1) = (s.getLsbD j ^^ ((s.getLsbD 31 ^^ b) && Config.poly.getLsbD (j + 1))) := by
  have inside : j + 1 < 32 := by omega
  rw [crcStep, BitVec.getLsbD_xor, BitVec.getLsbD_shiftLeft, ite_poly_getLsbD]
  simp [inside]

/-- Settles O1: the shifted state XORed with the taps of `P`. -/
theorem crcStepBitByBit : Obligations.CrcStepBitByBit :=
  fun s b => ⟨crcStep_getLsbD_zero s b, fun _ => crcStep_getLsbD_succ s b⟩

theorem crcStep_zero_false : crcStep 0#32 false = 0#32 := by decide

/-- Without feedback a step is a shift. -/
theorem crcStep_of_no_feedback {s : Crc} {b : Bool} (h : s.getLsbD 31 = b) : crcStep s b = s <<< 1 := by
  rw [crcStep, h, Bool.xor_self]
  exact BitVec.xor_zero

theorem crcStep_xor (s t : Crc) (a b : Bool) : crcStep (s ^^^ t) (a ^^ b) = crcStep s a ^^^ crcStep t b := by
  refine BitVec.eq_of_getLsbD_eq fun i hi => ?_
  cases i with
  | zero =>
    simp only [BitVec.getLsbD_xor, crcStep_getLsbD_zero, Bool.xor_assoc, Bool.xor_left_comm]
  | succ j =>
    have hj : j < 31 := by omega
    simp only [BitVec.getLsbD_xor, crcStep_getLsbD_succ _ _ hj]
    cases Config.poly.getLsbD (j + 1)
    · simp
    · simp only [Bool.and_true, Bool.xor_assoc, Bool.xor_left_comm]

/-- The state before a step is determined by the state after it and the data bit. -/
theorem crcStep_injective (b : Bool) : Function.Injective (crcStep · b) := by
  intro s t h
  have bit (i : Nat) : (crcStep s b).getLsbD i = (crcStep t b).getLsbD i := congrArg (BitVec.getLsbD · i) h
  have top : s.getLsbD 31 = t.getLsbD 31 := by
    simpa only [crcStep_getLsbD_zero, Bool.xor_left_inj] using bit 0
  refine BitVec.eq_of_getLsbD_eq fun i hi => ?_
  obtain hlt | rfl := Nat.lt_or_eq_of_le (Nat.le_of_lt_succ hi)
  · simpa only [crcStep_getLsbD_succ _ _ hlt, top, Bool.xor_left_inj] using bit (i + 1)
  · exact top

theorem crcStep_flip_ne (s : Crc) (b : Bool) : crcStep s (!b) ≠ crcStep s b := by
  intro h
  have bit : (crcStep s (!b)).getLsbD 0 = (crcStep s b).getLsbD 0 := congrArg (BitVec.getLsbD · 0) h
  rw [crcStep_getLsbD_zero, crcStep_getLsbD_zero] at bit
  cases b <;> simp at bit

/-! Words. -/

theorem engine_append (s : Crc) (d e : List Bool) : engine s (d ++ e) = engine (engine s d) e := List.foldl_append

theorem engine_laneBits (s : Crc) (d : Lanes) : engine s (laneBits d) = d.foldl (fun r b => engine r (byteBits b)) s := by
  induction d generalizing s with
  | nil => rfl
  | cons b d ih => rw [laneBits_cons, engine_append, ih, List.foldl_cons]

/-- Settles O4: the fold over an appended word, and over the bytes of the lanes. -/
theorem engineComposes : Obligations.EngineComposes := ⟨engine_append, engine_laneBits⟩

theorem engine_zero (n : Nat) : engine 0#32 (List.replicate n false) = 0#32 := by
  induction n with
  | zero => rfl
  | succ n ih => rw [List.replicate_succ, engine_cons, crcStep_zero_false, ih]

/-- Settles O2: the engine is this fold, and its operand has a bit. -/
theorem engNextFoldsDataBits : Obligations.EngNextFoldsDataBits := by
  refine ⟨fun s h => execEngNext_next_iff.2 ⟨?_, rfl⟩, engine_zero⟩
  have : s.inputs.engine.data ≠ [] := List.ne_nil_of_length_pos h
  simpa [EngineIn.wf] using this

/-- Settles O8: the spec's sequences, evaluated. -/
theorem referenceCrcValues : Obligations.ReferenceCrcValues := by
  unfold Obligations.ReferenceCrcValues
  decide +kernel

theorem engine_injective (d : List Bool) : Function.Injective (engine · d) := by
  induction d with
  | nil => exact fun _ _ h => h
  | cons b d ih => exact ih.comp (crcStep_injective b)

/-- Settles O18: the step at the flipped bit ends in another state, and the rest of the stream keeps them apart. -/
theorem singleBitFlipDetected : Obligations.SingleBitFlipDetected := by
  intro s before after b h
  rw [engine_append, engine_append, engine_cons, engine_cons] at h
  exact crcStep_flip_ne _ b (engine_injective after h)

theorem engine_xor (s t : Crc) {d e : List Bool} (h : d.length = e.length) :
    engine (s ^^^ t) (List.zipWith xor d e) = engine s d ^^^ engine t e := by
  induction d generalizing s t e with
  | nil =>
    obtain rfl : e = [] := List.eq_nil_of_length_eq_zero h.symm
    rfl
  | cons a d ih =>
    obtain ⟨b, e, rfl⟩ : ∃ b f, e = b :: f := List.exists_cons_of_length_eq_add_one h.symm
    rw [List.zipWith_cons_cons, engine_cons, engine_cons, engine_cons, crcStep_xor, ih _ _ (Nat.succ.inj h)]

theorem zipWith_xor_replicate_false (d : List Bool) : List.zipWith xor (List.replicate d.length false) d = d := by
  induction d with
  | nil => rfl
  | cons b d ih => simp [List.replicate_succ, ih]

/-- The state's share of the engine and the data's. -/
theorem engine_eq_xor (s : Crc) (d : List Bool) :
    engine s d = engine s (List.replicate d.length false) ^^^ engine 0#32 d := by
  have h := engine_xor s 0#32 (d := List.replicate d.length false) (e := d) (by simp)
  rwa [zipWith_xor_replicate_false, BitVec.xor_zero] at h

theorem engine_xor_replicate_false (n : Nat) (s t : Crc) :
    engine (s ^^^ t) (List.replicate n false) = engine s (List.replicate n false) ^^^ engine t (List.replicate n false) := by
  have h := engine_xor s t (d := List.replicate n false) (e := List.replicate n false) rfl
  simpa using h

/-! Columns. -/

/-- A linear map of an XOR of columns is the XOR of the mapped columns. -/
theorem map_xorColumns {f : Crc → Crc} (hzero : f 0#32 = 0#32) (hxor : ∀ a b, f (a ^^^ b) = f a ^^^ f b)
    (cs : List Crc) (bs : List Bool) : f (xorColumns cs bs) = xorColumns (cs.map f) bs := by
  induction cs generalizing bs with
  | nil => simpa [xorColumns] using hzero
  | cons c cs ih =>
    cases bs with
    | nil => simpa [xorColumns] using hzero
    | cons b bs => cases b <;> simp [xorColumns, hxor, ih]

theorem xorColumns_concat {cs : List Crc} {bs : List Bool} (h : cs.length = bs.length) (c : Crc) (b : Bool) :
    xorColumns (cs ++ [c]) (bs ++ [b]) = xorColumns cs bs ^^^ (if b then c else 0#32) := by
  induction cs generalizing bs with
  | nil =>
    obtain rfl : bs = [] := List.eq_nil_of_length_eq_zero h.symm
    simp [xorColumns]
  | cons a cs ih =>
    obtain ⟨b', bs, rfl⟩ : ∃ b f, bs = b :: f := List.exists_cons_of_length_eq_add_one h.symm
    simp only [List.cons_append, xorColumns]
    rw [ih (Nat.succ.inj h), BitVec.xor_assoc]

/-- The XOR of the unit states of the low `n` set bits of a state has these bits. -/
theorem xorColumns_units_getLsbD (s : Crc) (n : Nat) {i : Nat} (hi : i < 32) :
    (xorColumns ((List.range n).map (1#32 <<< ·)) ((List.range n).map s.getLsbD)).getLsbD i =
      (decide (i < n) && s.getLsbD i) := by
  induction n with
  | zero => simp [xorColumns]
  | succ n ih =>
    have unit : (if s.getLsbD n then 1#32 <<< n else 0#32).getLsbD i = (decide (n = i) && s.getLsbD n) := by
      rw [← BitVec.twoPow_eq]
      cases s.getLsbD n
      · simp
      · simp only [if_true, BitVec.getLsbD_twoPow, Bool.and_true]
        by_cases h : n = i <;> simp [h, hi]
    rw [List.range_succ, List.map_append, List.map_append, List.map_singleton, List.map_singleton,
      xorColumns_concat (by simp), BitVec.getLsbD_xor, ih, unit]
    obtain hlt | rfl | hgt := Nat.lt_trichotomy i n
    · have h1 : n ≠ i := by omega
      have h2 : i < n + 1 := by omega
      simp [hlt, h1, h2]
    · simp
    · have h1 : ¬ i < n := by omega
      have h2 : n ≠ i := by omega
      have h3 : ¬ i < n + 1 := by omega
      simp [h1, h2, h3]

theorem xorColumns_units (s : Crc) : xorColumns ((List.range 32).map (1#32 <<< ·)) (crcBits s) = s :=
  BitVec.eq_of_getLsbD_eq fun i hi => by rw [crcBits, xorColumns_units_getLsbD s 32 hi, decide_eq_true hi, Bool.true_and]

/-- The data's share, column by column: bit 0 enters first and is then shifted through the rest of the word. -/
theorem engine_zero_eq_xorColumns (d : List Bool) : engine 0#32 d =
    xorColumns ((List.range d.length).map fun i => engine 0#32 ((List.range d.length).map (· == i))) d := by
  induction d with
  | nil => rfl
  | cons b d ih =>
    have first : engine 0#32 ((List.range (d.length + 1)).map (· == 0)) =
        engine (crcStep 0#32 true) (List.replicate d.length false) := by
      rw [List.range_succ_eq_map]
      simp [Function.comp_def, List.map_const']
    have rest (i : Nat) : engine 0#32 ((List.range (d.length + 1)).map (· == i + 1)) =
        engine 0#32 ((List.range d.length).map (· == i)) := by
      rw [List.range_succ_eq_map]
      simp [Function.comp_def, crcStep_zero_false]
    have enter : engine (crcStep 0#32 b) (List.replicate d.length false) =
        if b then engine (crcStep 0#32 true) (List.replicate d.length false) else 0#32 := by
      cases b
      · simp [crcStep_zero_false, engine_zero]
      · rfl
    have columns : ((List.range (d.length + 1)).map fun i => engine 0#32 ((List.range (d.length + 1)).map (· == i))) =
        engine (crcStep 0#32 true) (List.replicate d.length false) ::
          (List.range d.length).map fun i => engine 0#32 ((List.range d.length).map (· == i)) := by
      conv_lhs => arg 2; rw [List.range_succ_eq_map]
      rw [List.map_cons, List.map_map, first]
      exact congrArg _ (List.map_congr_left fun i _ => rest i)
    rw [engine_cons, engine_eq_xor, enter, ih, List.length_cons, columns, xorColumns]

/-- Settles O3: the state's share is linear in the state, and the state is the XOR of its unit states. -/
theorem engineIsXorOfColumns : Obligations.EngineIsXorOfColumns := by
  intro s d
  have state : engine s (List.replicate d.length false) =
      xorColumns ((List.range 32).map fun j => engine (1#32 <<< j) (List.replicate d.length false)) (crcBits s) := by
    have h := map_xorColumns (f := (engine · (List.replicate d.length false))) (engine_zero d.length)
      (engine_xor_replicate_false d.length)
      ((List.range 32).map (1#32 <<< ·)) (crcBits s)
    rwa [xorColumns_units, List.map_map] at h
  rw [engine_eq_xor, state]
  exact congrArg _ (engine_zero_eq_xorColumns d)

/-- The state columns of R111 are the engine's on the unit states. -/
theorem scol_eq : ∀ w ∈ [8, 16, 24, 32, 40, 48, 56, 64],
    scol w = (List.range 32).map fun j => engine (1#32 <<< j) (List.replicate w false) := by
  decide +kernel

/-- The data columns of R111 are the engine's on the unit words. -/
theorem dcol_eq : ∀ w ∈ [8, 16, 24, 32, 40, 48, 56, 64],
    dcol w = (List.range w).map fun i => engine 0#32 ((List.range w).map (· == i)) := by
  decide +kernel

/-- Settles O5: the tables are the engine's columns, whose XOR is the engine. -/
theorem columnTablesGiveEngine : Obligations.ColumnTablesGiveEngine := by
  intro s d hw
  rw [tableEngine, scol_eq _ hw, dcol_eq _ hw]
  exact (engineIsXorOfColumns s d).symm

end Sys2Proof.Machine
end

section
/-! PROOFS. The derived XOR network (R102, R103): a turn on slots whose values are the bits of a state gives slots whose
values are the bits of its next state, reduced or not. The equations for W = 8 (R110) are the network of width 8. -/

namespace Sys2Proof.Machine

open Sys2Proof.Safety

variable (s : Crc) (d : List Bool)

/-! Values of slots. -/

theorem slotValue_cons (r : NetRef) (slot : List NetRef) :
    slotValue s d (r :: slot) = (refValue s d r ^^ slotValue s d slot) := rfl

theorem slotValue_append (p q : List NetRef) : slotValue s d (p ++ q) = (slotValue s d p ^^ slotValue s d q) := by
  induction p with
  | nil => exact (Bool.false_xor _).symm
  | cons r p ih => rw [List.cons_append, slotValue_cons, slotValue_cons, ih, Bool.xor_assoc]

theorem slotValue_perm {p q : List NetRef} (h : p.Perm q) : slotValue s d p = slotValue s d q :=
  h.foldr_eq' (f := fun r acc => refValue s d r ^^ acc) (fun _ _ _ _ _ => Bool.xor_left_comm _ _ _) false

/-- An identifier that appears twice cancels. -/
theorem slotValue_reduceSlot (slot : List NetRef) : slotValue s d (reduceSlot slot) = slotValue s d slot := by
  induction slot with
  | nil => rfl
  | cons r slot ih =>
    rw [reduceSlot, slotValue_cons]
    split
    next twice =>
      have value := slotValue_perm s d (List.perm_cons_erase twice)
      rw [ih, slotValue_cons] at value
      rw [value, ← Bool.xor_assoc, Bool.xor_self, Bool.false_xor]
    next once => rw [slotValue_cons, ih]

theorem map_slotValue_map_reduceSlot (slots : List (List NetRef)) :
    (slots.map reduceSlot).map (slotValue s d) = slots.map (slotValue s d) := by
  rw [List.map_map]
  exact List.map_congr_left fun slot _ => slotValue_reduceSlot s d slot

theorem reduceSlot_nodup (slot : List NetRef) : (reduceSlot slot).Nodup := by
  induction slot with
  | nil => exact List.nodup_nil
  | cons r slot ih =>
    rw [reduceSlot]
    split
    next => exact ih.erase r
    next once => exact List.nodup_cons.2 ⟨once, ih⟩

/-! A turn. -/

theorem crcBits_eq_cons (r : Crc) : crcBits r = r.getLsbD 0 :: (List.range 31).map fun j => r.getLsbD (j + 1) := by
  rw [crcBits, List.range_succ_eq_map, List.map_cons, List.map_map]
  rfl

/-- The slots' values are the bits of the state `r`: what every turn keeps. -/
def SlotsHold (slots : List (List NetRef)) (r : Crc) : Prop := slots.map (slotValue s d) = crcBits r

theorem startSlots_value : startSlots.map (slotValue s d) = crcBits s := by
  rw [startSlots, List.map_map]
  exact List.map_congr_left fun j _ => Bool.xor_false _

variable {s d} {r : Crc} {slots : List (List NetRef)}

/-- A slot's value is the state's bit of its number. -/
theorem slotValue_getD (h : SlotsHold s d slots r) {j : Nat} (hj : j < 32) :
    slotValue s d (slots.getD j []) = r.getLsbD j := by
  have bit : (slots.map (slotValue s d)).getD j false = slotValue s d (slots.getD j []) :=
    List.getD_map _ [] (slotValue s d)
  rw [← bit, h, crcBits, List.getD_eq_getElem?_getD, List.getElem?_map, List.getElem?_range hj]
  rfl

/-- A turn of the derivation is a step of the recurrence on the slots' values (R101, R102). -/
theorem deriveTurn_value (h : SlotsHold s d slots r) (i : Nat) :
    (deriveTurn slots i).map (slotValue s d) = crcBits (crcStep r (d.getD i false)) := by
  have feedback : slotValue s d (slots.getD 31 [] ++ [.data i]) = (r.getLsbD 31 ^^ d.getD i false) := by
    rw [slotValue_append, slotValue_getD h (by omega)]
    exact congrArg _ (Bool.xor_false _)
  rw [deriveTurn, List.map_cons, List.map_map, crcBits_eq_cons, feedback, crcStep_getLsbD_zero]
  refine congrArg _ (List.map_congr_left fun j hj => ?_)
  have hj : j < 31 := List.mem_range.1 hj
  rw [crcStep_getLsbD_succ _ _ hj, Function.comp_apply, slotValue_append, slotValue_getD h (by omega)]
  cases Config.poly.getLsbD (j + 1) with
  | false => rw [Bool.and_false]; rfl
  | true => rw [Bool.and_true, if_pos rfl, feedback]

/-- The engine reads its word by position. -/
theorem engine_eq_foldl_range (s : Crc) (d : List Bool) :
    engine s d = (List.range d.length).foldl (fun r i => crcStep r (d.getD i false)) s := by
  have word : d = (List.range d.length).map (d.getD · false) := by
    refine List.ext_getElem (by simp) fun i h _ => ?_
    simp [List.getD_eq_getElem?_getD, List.getElem?_eq_getElem h]
  conv_lhs => rw [word]
  rw [engine, List.foldl_map]

theorem rawNetwork_value (s : Crc) (d : List Bool) :
    (rawNetwork d.length).map (slotValue s d) = crcBits (engine s d) := by
  rw [engine_eq_foldl_range]
  exact List.foldl_rel (r := SlotsHold s d) (startSlots_value s d) fun i _ _ _ h => deriveTurn_value h i

theorem network_value (s : Crc) (d : List Bool) : (network d.length).map (slotValue s d) = crcBits (engine s d) := by
  rw [engine_eq_foldl_range]
  refine List.foldl_rel (r := SlotsHold s d) (startSlots_value s d) fun i _ slots _ h => ?_
  rw [SlotsHold, map_slotValue_map_reduceSlot, deriveTurn_value h i]

theorem startSlots_nodup : ∀ slot ∈ startSlots, slot.Nodup := by
  simp [startSlots]

/-- R103: reduced after every turn, no identifier is named twice. -/
theorem network_nodup (w : Nat) : ∀ slot ∈ network w, slot.Nodup := by
  cases w with
  | zero => exact startSlots_nodup
  | succ w =>
    rw [network, List.range_succ, List.foldl_append]
    intro slot hslot
    obtain ⟨unreduced, -, rfl⟩ := List.mem_map.1 hslot
    exact reduceSlot_nodup unreduced

/-- Settles O7: the three networks' values by induction on the turns; the reduction changes no value. -/
theorem derivedNetworkComputesEngine : Obligations.DerivedNetworkComputesEngine := by
  refine fun s d => ⟨network_value s d, ?_, rawNetwork_value s d, network_nodup d.length⟩
  rw [map_slotValue_map_reduceSlot, rawNetwork_value]

/-! The equations for W = 8. -/

/-- A row of R110 as a slot: its state bits, then its data bits. -/
def eqRowSlot (row : EqRow) : List NetRef := row.1.map .state ++ row.2.map .data

theorem eqRowValue_eq_slotValue (s : Crc) (d : List Bool) (row : EqRow) :
    eqRowValue s d row = slotValue s d (eqRowSlot row) := by
  rw [eqRowSlot, slotValue_append, slotValue, slotValue, List.foldr_map, List.foldr_map]
  rfl

/-- The rows of R110 name the bits of the network's slots. -/
theorem eqRows_perm_network : List.Forall₂ List.Perm (eqRows.map eqRowSlot) (network 8) := by decide +kernel

/-- Settles O6: R110 is the derived network of width 8. -/
theorem equationsForEightBits : Obligations.EquationsForEightBits := by
  intro s d hd
  have value : List.Forall₂ (· = ·) ((eqRows.map eqRowSlot).map (slotValue s d)) ((network 8).map (slotValue s d)) := by
    rw [List.forall₂_map_left_iff, List.forall₂_map_right_iff]
    exact eqRows_perm_network.imp fun _ _ => slotValue_perm s d
  calc eqRows.map (eqRowValue s d) = (eqRows.map eqRowSlot).map (slotValue s d) := by
        rw [List.map_map]
        exact List.map_congr_left fun row _ => eqRowValue_eq_slotValue s d row
    _ = (network d.length).map (slotValue s d) := by
        rw [List.forall₂_eq_eq_eq] at value
        rw [value, hd]
    _ = crcBits (engine s d) := network_value s d

end Sys2Proof.Machine
end

section
/-! PROOFS. What the register and the bank hold after bytes (41_crc32unit, section 4): the residue after the trailer
(R131), and the CRC of a partial word in every lane (R130). -/

namespace Sys2Proof.Machine

open Sys2Proof.Safety

theorem fold_append (s : Crc) (p q : Lanes) : fold s (p ++ q) = fold (fold s p) q := by
  rw [fold, laneBits_append, engine_append]
  rfl

/-! The residue. -/

/-- A state fed its own bits from the top down is shifted out, without feedback. -/
theorem engine_own_bits (s : Crc) {n : Nat} (hn : n ≤ 32) :
    engine s ((List.range n).map fun i => s.getLsbD (31 - i)) = s <<< n := by
  induction n with
  | zero => simp
  | succ n ih =>
    have top : (s <<< n).getLsbD 31 = s.getLsbD (31 - n) := by
      have : ¬ 31 < n := by omega
      simp only [BitVec.getLsbD_shiftLeft, this, decide_false]
      rfl
    rw [List.range_succ, List.map_append, engine_append, ih (by omega), List.map_singleton, engine_cons, engine_nil,
      crcStep_of_no_feedback top, BitVec.shiftLeft_add]

theorem rev32_getLsbD (v : Crc) {i : Nat} (hi : i < 32) : (rev32 v).getLsbD i = v.getLsbD (31 - i) := by
  rw [rev32, BitVec.getLsbD_reverse, BitVec.getMsbD_eq_getLsbD, decide_eq_true hi, Bool.true_and]

theorem crcBits_eq_rev32_bits (v : Crc) : crcBits v = (List.range 32).map fun i => (rev32 v).getLsbD (31 - i) := by
  refine List.map_congr_left fun i hi => ?_
  have hi : i < 32 := List.mem_range.1 hi
  have back : 31 - (31 - i) = i := by omega
  rw [rev32_getLsbD v (by omega), back]

theorem laneBits_trailerBytes (v : Crc) : laneBits (trailerBytes v) = crcBits v := by
  simp [trailerBytes, crcByte, crcBits, laneBits, byteBits, List.range_succ]

/-- Folding a 32-bit value is XORing its reversal into the state and folding zeros. -/
theorem fold_trailerBytes (s v : Crc) :
    fold s (trailerBytes v) = engine (s ^^^ rev32 v) (List.replicate 32 false) := by
  have shifted_out : engine (rev32 v) (crcBits v) = 0#32 := by
    rw [crcBits_eq_rev32_bits, engine_own_bits _ (Nat.le_refl 32)]
    exact BitVec.shiftLeft_eq_zero (Nat.le_refl 32)
  have length : (crcBits v).length = 32 := by simp [crcBits]
  calc fold s (trailerBytes v)
      = engine ((s ^^^ rev32 v) ^^^ rev32 v) (List.zipWith xor (List.replicate (crcBits v).length false) (crcBits v)) := by
        rw [zipWith_xor_replicate_false, BitVec.xor_assoc, BitVec.xor_self, BitVec.xor_zero, fold, laneBits_trailerBytes]
    _ = engine (s ^^^ rev32 v) (List.replicate 32 false) := by
        rw [engine_xor _ _ (by simp), shifted_out, BitVec.xor_zero, length]

theorem residue_eq : Config.residue = engine (BitVec.allOnes 32) (List.replicate 32 false) := by decide +kernel

theorem xor_rev32_eq_allOnes_iff (r v : Crc) : r ^^^ rev32 v = BitVec.allOnes 32 ↔ v = crcOutput r := by
  constructor
  · intro h
    refine BitVec.eq_of_getLsbD_eq fun i hi => ?_
    have bit := congrArg (BitVec.getLsbD · (31 - i)) h
    have back : 31 - (31 - i) = i := by omega
    have inside : 31 - i < 32 := by omega
    simp only [BitVec.getLsbD_xor, rev32_getLsbD v inside, back, BitVec.getLsbD_allOnes, inside, decide_true] at bit
    rw [crcOutput_getLsbD r hi]
    exact Bool.eq_not.2 (Bool.xor_iff_ne.1 bit).symm
  · rintro rfl
    refine BitVec.eq_of_getLsbD_eq fun i hi => ?_
    have back : 31 - (31 - i) = i := by omega
    have inside : 31 - i < 32 := by omega
    rw [BitVec.getLsbD_xor, rev32_getLsbD _ hi, crcOutput_getLsbD r inside, back, BitVec.getLsbD_allOnes,
      decide_eq_true hi, Bool.xor_not, Bool.xor_self]
    rfl

/-- R131 and its converse, from any register. -/
theorem fold_trailerBytes_eq_residue_iff (r v : Crc) : fold r (trailerBytes v) = Config.residue ↔ v = crcOutput r := by
  rw [fold_trailerBytes, residue_eq, (engine_injective _).eq_iff, xor_rev32_eq_allOnes_iff]

/-- Settles O17: the packet's register is the one the trailer is folded into. -/
theorem residueExactlyForCorrectTrailer : Obligations.ResidueExactlyForCorrectTrailer := by
  intro bytes v
  rw [fold_append]
  exact fold_trailerBytes_eq_residue_iff _ v

/-! The bank. -/

/-- After updates the widest lane holds the register of every byte. -/
theorem laneReg_top_foldl_bankUpdate {dwb : Nat} (hdwb : 1 ≤ dwb) {ws : List Lanes} (hws : ∀ w ∈ ws, w.length = dwb)
    (crc : List Crc) :
    laneReg (ws.foldl (bankUpdate dwb) crc) (dwb - 1) = fold (laneReg crc (dwb - 1)) ws.flatten := by
  induction ws generalizing crc with
  | nil => rfl
  | cons w ws ih =>
    obtain ⟨hw, hws⟩ := List.forall_mem_cons.1 hws
    rw [List.foldl_cons, ih hws, laneReg_bankUpdate crc w (by omega), laneNext, subWord_top hw hdwb, List.flatten_cons,
      fold_append]
    rfl

/-- Settles O16: the last update folds lanes `0..k` into the widest lane's register. -/
theorem bankHoldsPartialWordCrcs : Obligations.BankHoldsPartialWordCrcs := by
  intro dwb k ws w hk hws hw
  have hdwb : 1 ≤ dwb := by omega
  have lane : laneReg ((ws ++ [w]).foldl (bankUpdate dwb) (bankReset dwb)) k =
      fold Config.init (ws.flatten ++ w.take (k + 1)) := by
    rw [List.foldl_append, List.foldl_cons, List.foldl_nil, laneReg_bankUpdate _ w hk, laneNext,
      laneReg_top_foldl_bankUpdate hdwb hws, laneReg_bankReset (by omega), fold_append]
    rfl
  refine ⟨lane, fun draw => ?_⟩
  simp only [unitValuePort, laneSel_oneHot hk, lane, byteCrc]

end Sys2Proof.Machine
end

section
/-! PROOFS. What crosses the Inserter's ports in one step of a run, and over a run of one packet (R153, R154, R158). Each
lemma about a run starts in one state of the Inserter and follows the run to IDLE; a step of another component moves
nothing. -/

namespace Sys2Proof.Machine

open Sys2Proof.Safety

variable {s t : State} {n : Nat} {tr : Trace} {x : Inputs} {o : CycleOut} {e : Element}

/-! Traces. -/

theorem insAccepted_cons_none (h : insAccepts x o = none) : insAccepted ((x, o) :: tr) = insAccepted tr :=
  List.filterMap_cons_none h

theorem insAccepted_cons_some (h : insAccepts x o = some e) : insAccepted ((x, o) :: tr) = e :: insAccepted tr :=
  List.filterMap_cons_some h

theorem insEmitted_cons_none (h : insEmits x o = none) : insEmitted ((x, o) :: tr) = insEmitted tr :=
  List.filterMap_cons_none h

theorem insEmitted_cons_some (h : insEmits x o = some e) : insEmitted ((x, o) :: tr) = e :: insEmitted tr :=
  List.filterMap_cons_some h

theorem run_zero_iff {u : State} : run 0 s = some (tr, u) ↔ tr = [] ∧ u = s := by
  simp [run, eq_comm]

/-! One step. -/

/-- The Inserter in a step: its own cycle, or nothing. -/
theorem step_inserter_cases (h : step s = .next t) :
    (t.ins = s.ins ∧ insAccepts s.inputs t.out = none ∧ insEmits s.inputs t.out = none) ∨
      (InsReady s ∧ t.ins = insAfter s ∧ t.out = .inserter (insOut s)) := by
  cases hsel : s.inputs.sel with
  | comb p =>
    obtain ⟨-, rfl⟩ := (step_comb_iff hsel).1 h
    refine .inl ⟨by simp, ?_, ?_⟩ <;> cases p <;> simp [combOut, insAccepts, insEmits]
  | unit =>
    obtain ⟨-, rfl⟩ := (step_unit_iff hsel).1 h
    exact .inl (by simp [unitPorts, insAccepts, insEmits])
  | inserter =>
    obtain ⟨ready, rfl⟩ := (step_inserter_iff hsel).1 h
    exact .inr ⟨ready, by simp, by simp⟩
  | checker =>
    obtain ⟨-, rfl⟩ := (step_checker_iff hsel).1 h
    exact .inl (by simp [insAccepts, insEmits])

/-- In IDLE nothing moves, and the Inserter stays or goes to COPY with its unit reset (R141, R142). -/
theorem step_of_insIdle (hst : s.ins.st = .idle) (h : step s = .next t) :
    insAccepts s.inputs t.out = none ∧ insEmits s.inputs t.out = none ∧
      (t.ins.st = .idle ∨ t.ins.st = .copy ∧ t.ins.crc = bankReset s.params.insDwb) := by
  obtain ⟨hins, hacc, hem⟩ | ⟨-, hins, hout⟩ := step_inserter_cases h
  · exact ⟨hacc, hem, .inl (by rw [hins, hst])⟩
  · have shown : insOut s = silent s.params.insDwb s.draw (readyIfOffered s.inputs.ins false s.draw) := by
      simp [insOut, hst]
    rw [hout, hins, shown]
    cases hv : s.inputs.ins.sinkValid
    · exact ⟨sinkXfer_of_not_sinkValid hv _, sourceXfer_of_not_sourceValid _ rfl, .inl (by simp [insAfter, hst, hv])⟩
    · exact ⟨sinkXfer_of_not_sinkReady _ (by simp [silent, readyIfOffered, hv]), sourceXfer_of_not_sourceValid _ rfl,
        .inr (by simp [insAfter, hst, hv])⟩

/-- In COPY nothing moves, or an element passes through, is folded, and leads to APPEND if it is final (R143 to R146). -/
theorem step_of_insCopy (hst : s.ins.st = .copy) (h : step s = .next t) :
    (t.ins = s.ins ∧ insAccepts s.inputs t.out = none ∧ insEmits s.inputs t.out = none) ∨
      ∃ e, e.wf s.params.insDwb = true ∧ insAccepts s.inputs t.out = some e ∧ insEmits s.inputs t.out = some (passed e) ∧
        t.ins.crc = bankUpdate s.params.insDwb s.ins.crc e.data ∧
        (e.last = false → t.ins.st = .copy) ∧
        (e.last = true → t.ins.st = .append ∧ t.ins.cnt = 0 ∧ t.ins.lbe = e.lastBe) := by
  obtain other | ⟨ready, hins, hout⟩ := step_inserter_cases h
  · exact .inl other
  rw [hout, hins]
  cases hv : s.inputs.ins.sinkValid
  · exact .inl (by simp [insAfter, insOut, hst, hv, insAccepts, insEmits, sinkXfer, sourceXfer, silent])
  cases hr : s.inputs.ins.sourceReady
  · exact .inl (by simp [insAfter, insOut, hst, hv, hr, insAccepts, insEmits, sinkXfer, sourceXfer, copyOut])
  · refine .inr ⟨s.inputs.ins.sink, ready.2, ?_, ?_, ?_, ?_, ?_⟩
    · simp [insOut, hst, hv, hr, insAccepts, sinkXfer, copyOut]
    · simp [insOut, hst, hv, hr, insEmits, sourceXfer, copyOut]
    · simp [insAfter_crc, hst, hv, hr]
    · intro hl
      simp [insAfter, hst, hv, hr, hl]
    · intro hl
      simp [insAfter, hst, hv, hr, hl]

/-- In APPEND nothing is accepted, and the trailer element of `cnt` leaves when downstream is ready (R147 to R149). -/
theorem step_of_insAppend (hst : s.ins.st = .append) (h : step s = .next t) :
    insAccepts s.inputs t.out = none ∧
      ((t.ins = s.ins ∧ insEmits s.inputs t.out = none) ∨
        (insEmits s.inputs t.out = some (trailerElement s) ∧
          (insFinal s = true → t.ins.st = .idle) ∧
          (insFinal s = false → t.ins = { s.ins with cnt := s.ins.cnt + 1 }))) := by
  obtain ⟨hins, hacc, hem⟩ | ⟨-, hins, hout⟩ := step_inserter_cases h
  · exact ⟨hacc, .inl ⟨hins, hem⟩⟩
  have shown : insOut s = appendOut s := by simp [insOut, hst]
  rw [hout, hins, shown]
  refine ⟨sinkXfer_appendOut s, ?_⟩
  cases hr : s.inputs.ins.sourceReady
  · exact .inl ⟨by simp [insAfter, hst, hr], sourceXfer_of_not_sourceReady hr _⟩
  · refine .inr ⟨sourceXfer_of_ready hr rfl, fun hf => ?_, fun hf => ?_⟩
    · simp [insAfter, hst, hr, hf]
    · simp [insAfter, hst, hr, hf]

/-! The trailer. -/

/-- The trailer element with chunk number `i` (R151). -/
def trailerAt (dwb : Nat) (d : Nat → Lanes) (i : Nat) : Element :=
  ⟨d i, i + 1 == Config.ratio dwb, if i + 1 == Config.ratio dwb then oneHot dwb (dwb - 1) else noLanes dwb, false⟩

theorem trailer_eq_map (dwb : Nat) (d : Nat → Lanes) :
    trailer dwb d = (List.range (Config.ratio dwb)).map (trailerAt dwb d) := rfl

theorem trailer_length (dwb : Nat) (d : Nat → Lanes) : (trailer dwb d).length = Config.ratio dwb := by
  simp [trailer]

theorem trailer_drop_eq_cons {dwb i : Nat} (d : Nat → Lanes) (h : i < Config.ratio dwb) :
    (trailer dwb d).drop i = trailerAt dwb d i :: (trailer dwb d).drop (i + 1) := by
  rw [List.drop_eq_getElem_cons (by rw [trailer_length]; exact h)]
  simp [trailer_eq_map]

/-- The elements from number `j` on depend on the chunks from number `j` on. -/
theorem trailer_drop_congr {dwb j : Nat} {d d' : Nat → Lanes} (h : ∀ i, j ≤ i → d i = d' i) :
    (trailer dwb d).drop j = (trailer dwb d').drop j := by
  refine List.ext_getElem (by simp [trailer_length]) fun i _ _ => ?_
  simp only [trailer_eq_map, List.getElem_drop, List.getElem_map, List.getElem_range, trailerAt,
    h (j + i) (Nat.le_add_right j i)]

/-- The element that APPEND shows, while `cnt` is in range, is the one of number `cnt` with the data shown. -/
theorem trailerElement_eq_trailerAt {d : Nat → Lanes} (hcnt : s.ins.cnt < Config.ratio s.params.insDwb)
    (hd : d s.ins.cnt = (trailerElement s).data) : trailerElement s = trailerAt s.params.insDwb d s.ins.cnt := by
  have last : (s.ins.cnt + 1 == Config.ratio s.params.insDwb) = insFinal s := by
    rw [Bool.eq_iff_iff, insFinal_iff, beq_iff_eq]
    omega
  rw [trailerAt, hd, last]
  rfl

/-- What a contract says of a trailer's data: lanes of the port's width, and with a lane selected by the latched mask
the chunks of the CRC given for the lane. -/
def TrailerData (dwb : Nat) (lbe : LaneMask) (crcOf : Nat → Crc) (d : Nat → Lanes) : Prop :=
  (∀ i, (d i).length = dwb) ∧ ∀ k, laneSel dwb lbe = some k → d = chunk dwb (crcOf k)

/-- The latched lane's CRC, which every trailer element of a packet is cut from. -/
def latchedCrc (i : Inserter) (k : Nat) : Crc := crcOutput (laneReg i.crc k)

theorem insValue_of_laneSel {k : Nat} (h : laneSel s.params.insDwb s.ins.lbe = some k) : insValue s = latchedCrc s.ins k := by
  simp only [insValue, unitValuePort, h, latchedCrc]

theorem trailerData_chunk (s : State) :
    TrailerData s.params.insDwb s.ins.lbe (latchedCrc s.ins) (chunk s.params.insDwb (insValue s)) :=
  ⟨fun i => chunk_length _ _ i, fun k hk => by rw [insValue_of_laneSel hk]⟩

/-- Replacing a chunk by the one that APPEND shows keeps the data as the contract has them. -/
theorem trailerData_update {d : Nat → Lanes} (h : TrailerData s.params.insDwb s.ins.lbe (latchedCrc s.ins) d) :
    TrailerData s.params.insDwb s.ins.lbe (latchedCrc s.ins) (Function.update d s.ins.cnt (trailerElement s).data) := by
  obtain ⟨hlen, hlane⟩ := h
  refine ⟨fun i => ?_, fun k hk => ?_⟩
  · obtain rfl | hi := eq_or_ne i s.ins.cnt
    · rw [Function.update_self]
      exact chunk_length _ _ _
    · rw [Function.update_of_ne hi, hlen]
  · rw [hlane k hk]
    refine Function.update_eq_self_iff.2 ?_
    rw [← insValue_of_laneSel hk]
    rfl

/-! Runs. -/

/-- A run from COPY that accepts nothing stays in COPY. -/
theorem run_insCopy_of_none (hst : s.ins.st = .copy) (hrun : run n s = some (tr, t)) (hacc : insAccepted tr = []) :
    t.ins.st = .copy := by
  induction n generalizing s tr with
  | zero =>
    obtain ⟨-, rfl⟩ := run_zero_iff.1 hrun
    exact hst
  | succ n ih =>
    obtain ⟨u, tr', hstep, hrest, rfl⟩ := run_succ_iff.1 hrun
    obtain ⟨hins, hnone, -⟩ | ⟨e, -, hsome, -⟩ := step_of_insCopy hst hstep
    · exact ih (by rw [hins, hst]) hrest (by rwa [insAccepted_cons_none hnone] at hacc)
    · rw [insAccepted_cons_some hsome] at hacc
      simp at hacc

/-- A run from IDLE to IDLE that accepts nothing emits nothing. -/
theorem run_insIdle_of_none (hst : s.ins.st = .idle) (ht : t.ins.st = .idle) (hrun : run n s = some (tr, t))
    (hacc : insAccepted tr = []) : insEmitted tr = [] := by
  induction n generalizing s tr with
  | zero =>
    obtain ⟨rfl, -⟩ := run_zero_iff.1 hrun
    rfl
  | succ n ih =>
    obtain ⟨u, tr', hstep, hrest, rfl⟩ := run_succ_iff.1 hrun
    obtain ⟨hnone, hem, hnext⟩ := step_of_insIdle hst hstep
    rw [insAccepted_cons_none hnone] at hacc
    rw [insEmitted_cons_none hem]
    obtain hidle | ⟨hcopy, -⟩ := hnext
    · exact ih hidle hrest hacc
    · have := run_insCopy_of_none hcopy hrest hacc
      rw [ht] at this
      cases this

/-- A run from APPEND to IDLE that accepts nothing emits the trailer from number `cnt` on. -/
theorem run_insAppend (hst : s.ins.st = .append) (hcnt : s.ins.cnt < Config.ratio s.params.insDwb)
    (ht : t.ins.st = .idle) (hrun : run n s = some (tr, t)) (hacc : insAccepted tr = []) :
    ∃ d, insEmitted tr = (trailer s.params.insDwb d).drop s.ins.cnt ∧
      TrailerData s.params.insDwb s.ins.lbe (latchedCrc s.ins) d := by
  induction n generalizing s tr with
  | zero =>
    obtain ⟨-, rfl⟩ := run_zero_iff.1 hrun
    rw [hst] at ht
    cases ht
  | succ n ih =>
    obtain ⟨u, tr', hstep, hrest, rfl⟩ := run_succ_iff.1 hrun
    have params := parametersNeverChange s u hstep
    obtain ⟨hnone, hnext⟩ := step_of_insAppend hst hstep
    rw [insAccepted_cons_none hnone] at hacc
    obtain ⟨hins, hem⟩ | ⟨hem, hfinal, hchunk⟩ := hnext
    · have := ih (s := u) (by rw [hins, hst]) (by rwa [hins, params]) hrest hacc
      rw [insEmitted_cons_none hem]
      rwa [hins, params] at this
    · rw [insEmitted_cons_some hem]
      cases hf : insFinal s with
      | true =>
        refine ⟨_, ?_, trailerData_chunk s⟩
        rw [insFinal_iff] at hf
        rw [run_insIdle_of_none (hfinal (insFinal_iff.2 hf)) ht hrest hacc, trailer_drop_eq_cons _ hcnt,
          ← trailerElement_eq_trailerAt hcnt rfl, List.drop_of_length_le (by rw [trailer_length]; omega)]
      | false =>
        have hins := hchunk hf
        rw [← Bool.not_eq_true, insFinal_iff] at hf
        obtain ⟨d, hemitted, hdata⟩ := ih (s := u) (by rw [hins, hst])
          (by rw [hins, params]; dsimp only; omega) hrest hacc
        simp only [hins, params] at hemitted
        rw [hins, params] at hdata
        refine ⟨_, ?_, trailerData_update hdata⟩
        rw [hemitted, trailer_drop_eq_cons _ hcnt, ← trailerElement_eq_trailerAt hcnt (Function.update_self _ _ _)]
        refine congrArg _ (trailer_drop_congr fun i hi => ?_)
        rw [Function.update_of_ne (by omega)]

theorem fold_validBytes_cons (r : Crc) (b : Element) (body : List Element) (fin : Element) (k : Nat) :
    fold r (validBytes (b :: body) fin k) = fold (fold r b.data) (validBytes body fin k) := by
  rw [← fold_append, validBytes, allBytes, List.flatMap_cons, List.append_assoc]
  rfl

/-- The register that the next word is folded into: the widest lane's, after a word of the port's width. -/
theorem laneReg_top_bankUpdate {dwb : Nat} (hdwb : 1 ≤ dwb) (crc : List Crc) {d : Lanes} (hd : d.length = dwb) :
    laneReg (bankUpdate dwb crc d) (dwb - 1) = fold (laneReg crc (dwb - 1)) d := by
  rw [laneReg_bankUpdate crc d (by omega), laneNext, subWord_top hd hdwb]
  rfl

variable {body : List Element} {fin : Element}

/-- A run from COPY to IDLE over the rest of a packet emits it and the trailer of the packet's CRC. -/
theorem run_insCopy (hp : pipelineAdmitted s.params.insDwb = true) (hst : s.ins.st = .copy) (ht : t.ins.st = .idle)
    (hrun : run n s = some (tr, t)) (hacc : insAccepted tr = body ++ [fin]) (hbody : ∀ e ∈ body, e.last = false)
    (hfin : fin.last = true) :
    (∀ e ∈ body ++ [fin], e.wf s.params.insDwb = true) ∧
    ∃ d, insEmitted tr = insPacket s.params.insDwb (body ++ [fin]) d ∧
      TrailerData s.params.insDwb fin.lastBe
        (fun k => crcOutput (fold (laneReg s.ins.crc (s.params.insDwb - 1)) (validBytes body fin k))) d := by
  induction n generalizing s tr body with
  | zero =>
    obtain ⟨-, rfl⟩ := run_zero_iff.1 hrun
    rw [hst] at ht
    cases ht
  | succ n ih =>
    obtain ⟨u, tr', hstep, hrest, rfl⟩ := run_succ_iff.1 hrun
    have params := parametersNeverChange s u hstep
    obtain ⟨hins, hnone, hem⟩ | ⟨e, hwf, hsome, hem, hcrc, hmid, hlast⟩ := step_of_insCopy hst hstep
    · have := ih (s := u) (by rwa [params]) (by rw [hins, hst]) hrest
        (by rwa [insAccepted_cons_none hnone] at hacc) hbody
      rw [insEmitted_cons_none hem]
      rwa [hins, params] at this
    · rw [insAccepted_cons_some hsome] at hacc
      rw [insEmitted_cons_some hem]
      cases body with
      | nil =>
        obtain ⟨rfl, hnil⟩ := List.cons_eq_cons.1 hacc
        obtain ⟨hst', hcnt', hlbe'⟩ := hlast hfin
        obtain ⟨d, hemitted, hlen, hlane⟩ := run_insAppend hst' (by rw [hcnt', params]; exact ratio_pos hp) ht hrest hnil
        rw [hcnt', params] at hemitted
        refine ⟨by simpa using hwf, d, by rw [hemitted]; rfl, by rwa [params] at hlen, fun k hk => ?_⟩
        have klt : k < s.params.insDwb := laneSel_lt (lastBe_length_of_wf hwf) (pipelineAdmitted_pos hp) hk
        rw [hlane k (by rw [hlbe', params, hk]), params, latchedCrc, hcrc, laneReg_bankUpdate _ _ klt]
        rfl
      | cons b body =>
        obtain ⟨rfl, hacc'⟩ := List.cons_eq_cons.1 hacc
        obtain ⟨hb, hbody⟩ := List.forall_mem_cons.1 hbody
        obtain ⟨hwfs, d, hemitted, hdata⟩ := ih (s := u) (by rwa [params]) (hmid hb) hrest hacc' hbody
        rw [params] at hwfs hemitted hdata
        refine ⟨List.forall_mem_cons.2 ⟨hwf, hwfs⟩, d, by rw [hemitted]; rfl, ?_⟩
        simpa only [hcrc, laneReg_top_bankUpdate (pipelineAdmitted_pos hp) _ (data_length_of_wf hwf),
          fold_validBytes_cons] using hdata

/-- A run from IDLE to IDLE over one packet. -/
theorem run_insIdle (hp : pipelineAdmitted s.params.insDwb = true) (hst : s.ins.st = .idle) (ht : t.ins.st = .idle)
    (hrun : run n s = some (tr, t)) (hacc : insAccepted tr = body ++ [fin]) (hbody : ∀ e ∈ body, e.last = false)
    (hfin : fin.last = true) :
    (∀ e ∈ body ++ [fin], e.wf s.params.insDwb = true) ∧
    ∃ d, insEmitted tr = insPacket s.params.insDwb (body ++ [fin]) d ∧
      TrailerData s.params.insDwb fin.lastBe (fun k => byteCrc (validBytes body fin k)) d := by
  induction n generalizing s tr with
  | zero =>
    obtain ⟨rfl, -⟩ := run_zero_iff.1 hrun
    simp [insAccepted] at hacc
  | succ n ih =>
    obtain ⟨u, tr', hstep, hrest, rfl⟩ := run_succ_iff.1 hrun
    have params := parametersNeverChange s u hstep
    obtain ⟨hnone, hem, hnext⟩ := step_of_insIdle hst hstep
    rw [insAccepted_cons_none hnone] at hacc
    rw [insEmitted_cons_none hem]
    rw [← params] at hp ⊢
    obtain hidle | ⟨hcopy, hcrc⟩ := hnext
    · exact ih hp hidle hrest hacc
    · have := run_insCopy hp hcopy ht hrest hacc hbody hfin
      have top : u.params.insDwb - 1 < u.params.insDwb := Nat.sub_one_lt_of_lt (pipelineAdmitted_pos hp)
      rwa [hcrc, ← params, laneReg_bankReset top] at this

/-- Settles O29: the Inserter's run follows IDLE, COPY, APPEND and IDLE, with waits anywhere. -/
theorem inserterPacketContract : Obligations.InserterPacketContract := by
  intro n s t tr body fin hp hst ht hrun hacc hbody hfin
  obtain ⟨-, d, hemitted, hlen, hlane⟩ := run_insIdle hp hst ht hrun hacc hbody hfin
  exact ⟨d, hemitted, hlen, hlane⟩

end Sys2Proof.Machine
end

section
/-! PROOFS. What crosses the Checker's ports in one step of a run, and over a run of one packet (R185 to R189). Each lemma
about a run starts in RESET or outside it and follows the run to RESET. -/

namespace Sys2Proof.Machine

open Sys2Proof.Safety

variable {s t : State} {n : Nat} {tr : Trace} {x : Inputs} {o : CycleOut} {e : Element}

/-! Traces. -/

theorem chkAccepted_cons_none (h : chkAccepts x o = none) : chkAccepted ((x, o) :: tr) = chkAccepted tr :=
  List.filterMap_cons_none h

theorem chkAccepted_cons_some (h : chkAccepts x o = some e) : chkAccepted ((x, o) :: tr) = e :: chkAccepted tr :=
  List.filterMap_cons_some h

theorem chkEmitted_cons_none (h : chkEmits x o = none) : chkEmitted ((x, o) :: tr) = chkEmitted tr :=
  List.filterMap_cons_none h

theorem chkEmitted_cons_some (h : chkEmits x o = some e) : chkEmitted ((x, o) :: tr) = e :: chkEmitted tr :=
  List.filterMap_cons_some h

/-! One step. -/

/-- The Checker in a step: its own cycle, or nothing. -/
theorem step_checker_cases (h : step s = .next t) :
    (t.chk = s.chk ∧ chkAccepts s.inputs t.out = none ∧ chkEmits s.inputs t.out = none ∧ pulses t.out = false) ∨
      (ChkReady s ∧ t.chk = chkAfter s ∧ t.out = .checker (chkOut s) (chkPulse s)) := by
  cases hsel : s.inputs.sel with
  | comb p =>
    obtain ⟨-, rfl⟩ := (step_comb_iff hsel).1 h
    refine .inl ⟨by simp, ?_, ?_, ?_⟩ <;> cases p <;> simp [combOut, chkAccepts, chkEmits, pulses]
  | unit =>
    obtain ⟨-, rfl⟩ := (step_unit_iff hsel).1 h
    exact .inl (by simp [unitPorts, chkAccepts, chkEmits, pulses])
  | inserter =>
    obtain ⟨-, rfl⟩ := (step_inserter_iff hsel).1 h
    exact .inl (by simp [chkAccepts, chkEmits, pulses])
  | checker =>
    obtain ⟨ready, rfl⟩ := (step_checker_iff hsel).1 h
    exact .inr ⟨ready, by simp, by simp⟩

/-- In RESET nothing moves, and the Checker stays or goes to IDLE with its buffer empty and its unit reset (R176). -/
theorem step_of_chkReset (hst : s.chk.st = .reset) (h : step s = .next t) :
    (chkAccepts s.inputs t.out = none ∧ chkEmits s.inputs t.out = none ∧ pulses t.out = false) ∧
      (t.chk.st = .reset ∨ t.chk = ⟨.idle, [], bankReset s.params.chkDwb⟩) := by
  obtain ⟨hchk, still⟩ | ⟨-, hchk, hout⟩ := step_checker_cases h
  · exact ⟨still, .inl (by rw [hchk, hst])⟩
  · rw [hout, hchk]
    refine ⟨⟨?_, ?_, ?_⟩, .inr (by simp [chkAfter, hst])⟩
    · simp [chkAccepts, sinkXfer_chkOut, hst]
    · exact sourceXfer_of_not_sourceValid _ (by simp [chkOut, hst, silent])
    · simp [pulses, chkPulse, hst]

/-- The residue verdict on a final element folded from the register `r`: that of the lane its mask selects. -/
def IsVerdict (dwb : Nat) (r : Crc) (e : Element) (crcErr : Bool) : Prop :=
  ∀ k, laneSel dwb e.lastBe = some k → crcErr = (fold r (e.data.take (k + 1)) != Config.residue)

/-- The residue test of the Checker's cycle is the verdict on the offered element. -/
theorem chkCrcErr_isVerdict (s : State) :
    IsVerdict s.params.chkDwb (laneReg s.chk.crc (s.params.chkDwb - 1)) s.inputs.chk.sink (chkCrcErr s) := by
  intro k hk
  simp only [chkCrcErr, unitErrorPort, hk, laneNext, subWord, fold]

/-- The oldest element as the Checker releases it while it takes `e` (R172, R173). -/
def releasedFor (b : Element) (rest : List Element) (e : Element) (crcErr : Bool) : Element :=
  ⟨b.data, e.last, b.lastBe, if e.last then (b :: rest).any (·.error) || e.error || crcErr else b.error⟩

/-- What the Checker, outside RESET and with buffer `buf`, does while it takes `e` (R178 to R182): below RATIO elements
it only pushes; at RATIO it releases the oldest, and pulses with a final element whose residue test fails. -/
def Takes (ratio : Nat) (buf : List Element) (e : Element) (crcErr : Bool) (emitted : Option Element) (pulse : Bool)
    (buf' : List Element) : Prop :=
  (buf.length ≠ ratio ∧ emitted = none ∧ pulse = false ∧ buf' = buf ++ [e]) ∨
    ∃ b rest, buf = b :: rest ∧ buf.length = ratio ∧ emitted = some (releasedFor b rest e crcErr) ∧
      pulse = (e.last && crcErr) ∧ buf' = rest ++ [e]

theorem takes_length_le {ratio : Nat} {buf buf' : List Element} {crcErr pulse : Bool} {emitted : Option Element}
    (h : Takes ratio buf e crcErr emitted pulse buf') (hle : buf.length ≤ ratio) : buf'.length ≤ ratio := by
  obtain ⟨hne, -, -, rfl⟩ | ⟨b, rest, rfl, hfull, -, -, rfl⟩ := h
  · have : buf.length < ratio := lt_of_le_of_ne hle hne
    simpa using this
  · simpa using hle

theorem takes_of_chkTakes (ready : ChkReady s) (hst : s.chk.st ≠ .reset) (htakes : chkTakes s = true) :
    Takes (Config.ratio s.params.chkDwb) s.chk.buf s.inputs.chk.sink (chkCrcErr s)
      (sourceXfer s.inputs.chk (chkOut s)) (chkPulse s) (chkAfter s).buf := by
  obtain ⟨hv, hready⟩ := chkTakes_iff.1 htakes
  by_cases hfull : s.chk.buf.length = Config.ratio s.params.chkDwb
  · have full : chkFull s = true := chkFull_iff.2 hfull
    have hready : s.inputs.chk.sourceReady = true := hready.resolve_left (absurd hfull)
    cases hbuf : s.chk.buf with
    | nil =>
      have := ratio_pos ready.1
      rw [hbuf, List.length_nil] at hfull
      omega
    | cons b rest =>
      refine .inr ⟨b, rest, rfl, hbuf ▸ hfull, ?_, ?_, ?_⟩
      · have shown : (chkOut s).source = releasedFor b rest s.inputs.chk.sink (chkCrcErr s) := by
          simp [chkOut, hst, hv, full, released_of_buf hbuf, chkSourceError, chkFinalError, hbuf, releasedFor]
        rw [sourceXfer_of_ready hready (by simp [chkOut, hst, hv, full]), shown]
      · simp [chkPulse, hst, htakes, full]
      · simp [chkAfter, hst, htakes, full, push, pop, hbuf]
  · have room : chkFull s = false := by rwa [← Bool.not_eq_true, chkFull_iff]
    refine .inl ⟨hfull, sourceXfer_of_not_sourceValid _ (by simp [chkOut, hst, hv, room, silent]), ?_, ?_⟩
    · simp [chkPulse, room]
    · simp [chkAfter, hst, htakes, room, push]

/-- Outside RESET nothing moves, or an element is taken and folded (R177 to R182). -/
theorem step_of_chkNotReset (hst : s.chk.st ≠ .reset) (h : step s = .next t) :
    (t.chk = s.chk ∧ chkAccepts s.inputs t.out = none ∧ chkEmits s.inputs t.out = none ∧ pulses t.out = false) ∨
      ∃ e crcErr, e.wf s.params.chkDwb = true ∧ chkAccepts s.inputs t.out = some e ∧
        t.chk.st = (if e.last then .reset else .active) ∧ t.chk.crc = bankUpdate s.params.chkDwb s.chk.crc e.data ∧
        IsVerdict s.params.chkDwb (laneReg s.chk.crc (s.params.chkDwb - 1)) e crcErr ∧
        Takes (Config.ratio s.params.chkDwb) s.chk.buf e crcErr (chkEmits s.inputs t.out) (pulses t.out) t.chk.buf := by
  obtain other | ⟨ready, hchk, hout⟩ := step_checker_cases h
  · exact .inl other
  rw [hout, hchk]
  cases htakes : chkTakes s with
  | false =>
    refine .inl ⟨by simp [chkAfter, hst, htakes], by simp [chkAccepts, sinkXfer_chkOut, htakes], ?_,
      by simp [pulses, chkPulse, htakes]⟩
    cases hv : s.inputs.chk.sinkValid
    · exact sourceXfer_of_not_sourceValid _ (by simp [chkOut, hst, hv, silent])
    · have notReady : s.inputs.chk.sourceReady = false :=
        Bool.eq_false_iff.2 fun hr => absurd (chkTakes_iff.2 ⟨hv, .inr hr⟩) (by rw [htakes]; exact Bool.false_ne_true)
      exact sourceXfer_of_not_sourceReady notReady _
  | true =>
    exact .inr ⟨s.inputs.chk.sink, chkCrcErr s, ready.2, by simp [chkAccepts, sinkXfer_chkOut, hst, htakes],
      by simp [chkAfter, hst, htakes], by simp [chkAfter, hst, htakes, chkFold], chkCrcErr_isVerdict s,
      takes_of_chkTakes ready hst htakes⟩

/-! What a run reports of a packet. -/

/-- The trace emits nothing and has no pulse. -/
def Quiet (tr : Trace) : Prop := chkEmitted tr = [] ∧ ∀ c ∈ tr, pulses c.2 = false

/-- The trace emits what R185 says of the packet `es` with the given residue verdict, and pulses once if the packet is
longer than its trailer and the test fails, with the release of a final element that carries the error (R186, R187). -/
def Reports (dwb : Nat) (tr : Trace) (es : List Element) (crcErr : Bool) : Prop :=
  chkEmitted tr = chkPacket dwb es crcErr ∧
    pulseCount tr = (if Config.ratio dwb < es.length ∧ crcErr = true then 1 else 0) ∧
    ∀ c ∈ tr, pulses c.2 = true → ∃ e, chkEmits c.1 c.2 = some e ∧ e.last = true ∧ e.error = true

theorem quiet_nil : Quiet [] := ⟨rfl, by simp⟩

theorem quiet_cons (hem : chkEmits x o = none) (hp : pulses o = false) (h : Quiet tr) : Quiet ((x, o) :: tr) := by
  obtain ⟨hemitted, hpulses⟩ := h
  exact ⟨by rw [chkEmitted_cons_none hem, hemitted], List.forall_mem_cons.2 ⟨hp, hpulses⟩⟩

theorem pulseCount_of_quiet (h : Quiet tr) : pulseCount tr = 0 := by
  refine List.countP_eq_zero.2 fun c hc => ?_
  rw [h.2 c hc]
  exact Bool.false_ne_true

theorem pulseCount_cons (x : Inputs) (o : CycleOut) (tr : Trace) :
    pulseCount ((x, o) :: tr) = pulseCount tr + (if pulses o = true then 1 else 0) :=
  List.countP_cons

/-- A packet of `RATIO` trailing elements, before them `e`, and before it `body`. -/
theorem chkPacket_append {dwb : Nat} {body last : List Element} (e : Element) (hlast : last.length = Config.ratio dwb)
    (crcErr : Bool) : chkPacket dwb (body ++ e :: last) crcErr =
      body.map passed ++ [⟨e.data, true, e.lastBe, e.error || last.any (·.error) || crcErr⟩] := by
  have len : (body ++ e :: last).length - Config.ratio dwb = (body ++ [e]).length := by simp; omega
  have cut : body ++ e :: last = (body ++ [e]) ++ last := by simp
  have data : (body ++ e :: last).take ((body ++ e :: last).length - Config.ratio dwb) = body ++ [e] := by
    rw [len, cut, List.take_left]
  have front : (body ++ e :: last).length - Config.ratio dwb - 1 = body.length := by rw [len]; simp
  rw [chkPacket, data, front, List.getLast?_concat, List.take_left, List.drop_left]
  rfl

/-- A packet no longer than its trailer gives nothing (C9, R189). -/
theorem chkPacket_of_length_le {dwb : Nat} {es : List Element} (h : es.length ≤ Config.ratio dwb) (crcErr : Bool) :
    chkPacket dwb es crcErr = [] := by
  have none_left : es.length - Config.ratio dwb = 0 := by omega
  rw [chkPacket, none_left]
  rfl

/-- A packet longer than its trailer is an element, the data before it, and `RATIO` trailing elements. -/
theorem exists_split_of_ratio_lt {dwb : Nat} {es : List Element} (h : Config.ratio dwb < es.length) :
    ∃ body e last, es = body ++ e :: last ∧ last.length = Config.ratio dwb := by
  have inside : es.length - Config.ratio dwb - 1 < es.length := by omega
  refine ⟨es.take (es.length - Config.ratio dwb - 1), es[es.length - Config.ratio dwb - 1],
    es.drop (es.length - Config.ratio dwb - 1 + 1), ?_, ?_⟩
  · rw [← List.drop_eq_getElem_cons inside, List.take_append_drop]
  · rw [List.length_drop]
    omega

/-- The oldest element of a packet longer than its trailer by two or more leaves with `last = 0` alone changed. -/
theorem chkPacket_cons {dwb : Nat} {es : List Element} (b : Element) (h : Config.ratio dwb < es.length) (crcErr : Bool) :
    chkPacket dwb (b :: es) crcErr = passed b :: chkPacket dwb es crcErr := by
  obtain ⟨body, e, last, rfl, hlast⟩ := exists_split_of_ratio_lt h
  rw [← List.cons_append, chkPacket_append e hlast, chkPacket_append e hlast]
  rfl

theorem reports_of_quiet {dwb : Nat} {es : List Element} (h : Quiet tr) (hlen : es.length ≤ Config.ratio dwb)
    (crcErr : Bool) : Reports dwb tr es crcErr := by
  refine ⟨h.1.trans (chkPacket_of_length_le hlen crcErr).symm, ?_, fun c hc hp => ?_⟩
  · rw [pulseCount_of_quiet h, if_neg (fun h => by omega)]
  · rw [h.2 c hc] at hp
    cases hp

theorem reports_cons_still {dwb : Nat} {es : List Element} {crcErr : Bool} (hem : chkEmits x o = none)
    (hp : pulses o = false) (h : Reports dwb tr es crcErr) : Reports dwb ((x, o) :: tr) es crcErr := by
  obtain ⟨hemitted, hcount, hpulses⟩ := h
  refine ⟨by rw [chkEmitted_cons_none hem, hemitted], by rw [pulseCount_cons, hcount, hp]; rfl, ?_⟩
  exact List.forall_mem_cons.2 ⟨fun h => absurd (hp.symm.trans h) Bool.false_ne_true, hpulses⟩

theorem reports_cons_passed {dwb : Nat} {es : List Element} {crcErr : Bool} {b : Element}
    (hem : chkEmits x o = some (passed b)) (hp : pulses o = false) (hlen : Config.ratio dwb < es.length)
    (h : Reports dwb tr es crcErr) : Reports dwb ((x, o) :: tr) (b :: es) crcErr := by
  obtain ⟨hemitted, hcount, hpulses⟩ := h
  refine ⟨by rw [chkEmitted_cons_some hem, hemitted, chkPacket_cons b hlen], ?_, ?_⟩
  · have hlen' : Config.ratio dwb < (b :: es).length := hlen.trans (Nat.lt_succ_self _)
    rw [pulseCount_cons, hcount, hp]
    simp only [hlen, hlen', true_and, Bool.false_eq_true, if_false, Nat.add_zero]
  · exact List.forall_mem_cons.2 ⟨fun h => absurd (hp.symm.trans h) Bool.false_ne_true, hpulses⟩

/-- The cycle that releases a packet's final data element, and a quiet rest. -/
theorem reports_cons_final {dwb : Nat} {b fin : Element} {rest : List Element} {crcErr : Bool}
    (hfin : fin.last = true) (hem : chkEmits x o = some (releasedFor b rest fin crcErr)) (hp : pulses o = crcErr)
    (hlen : (b :: rest).length = Config.ratio dwb) (h : Quiet tr) :
    Reports dwb ((x, o) :: tr) (b :: rest ++ [fin]) crcErr := by
  have hlast : (rest ++ [fin]).length = Config.ratio dwb := by simpa using hlen
  have shown : releasedFor b rest fin crcErr =
      ⟨b.data, true, b.lastBe, b.error || (rest ++ [fin]).any (·.error) || crcErr⟩ := by
    simp [releasedFor, hfin, Bool.or_assoc]
  refine ⟨?_, ?_, List.forall_mem_cons.2 ⟨fun hpulse => ⟨_, hem, hfin, ?_⟩, fun c hc hpulse => ?_⟩⟩
  · rw [chkEmitted_cons_some hem, h.1, shown]
    exact (chkPacket_append (body := []) b hlast crcErr).symm
  · have longer : Config.ratio dwb < (b :: rest ++ [fin]).length := by rw [← hlen]; simp
    rw [pulseCount_cons, pulseCount_of_quiet h, hp]
    simp only [longer, true_and, Nat.zero_add]
  · rw [shown, ← hp]
    change (_ || pulses o) = true
    rw [hpulse, Bool.or_true]
  · rw [h.2 c hc] at hpulse
    cases hpulse

/-! Runs. -/

/-- A run from outside RESET that accepts nothing stays outside it. -/
theorem run_chkNotReset_of_none (hst : s.chk.st ≠ .reset) (hrun : run n s = some (tr, t)) (hacc : chkAccepted tr = []) :
    t.chk.st ≠ .reset := by
  induction n generalizing s tr with
  | zero =>
    obtain ⟨-, rfl⟩ := run_zero_iff.1 hrun
    exact hst
  | succ n ih =>
    obtain ⟨u, tr', hstep, hrest, rfl⟩ := run_succ_iff.1 hrun
    obtain ⟨hchk, hnone, -⟩ | ⟨e, -, -, hsome, -⟩ := step_of_chkNotReset hst hstep
    · exact ih (by rwa [hchk]) hrest (by rwa [chkAccepted_cons_none hnone] at hacc)
    · rw [chkAccepted_cons_some hsome] at hacc
      simp at hacc

/-- A run from RESET to RESET that accepts nothing is quiet. -/
theorem run_chkReset_of_none (hst : s.chk.st = .reset) (ht : t.chk.st = .reset) (hrun : run n s = some (tr, t))
    (hacc : chkAccepted tr = []) : Quiet tr := by
  induction n generalizing s tr with
  | zero =>
    obtain ⟨rfl, -⟩ := run_zero_iff.1 hrun
    exact quiet_nil
  | succ n ih =>
    obtain ⟨u, tr', hstep, hrest, rfl⟩ := run_succ_iff.1 hrun
    obtain ⟨⟨hnone, hem, hp⟩, hnext⟩ := step_of_chkReset hst hstep
    rw [chkAccepted_cons_none hnone] at hacc
    refine quiet_cons hem hp ?_
    obtain hreset | hidle := hnext
    · exact ih hreset hrest hacc
    · exact absurd ht (run_chkNotReset_of_none (by rw [hidle]; simp) hrest hacc)

variable {body : List Element} {fin : Element}

/-- The verdict on a packet's final element, folded from the register `r` after the rest of the packet. -/
def IsPacketVerdict (dwb : Nat) (r : Crc) (body : List Element) (fin : Element) (crcErr : Bool) : Prop :=
  ∀ k, laneSel dwb fin.lastBe = some k → crcErr = (fold r (validBytes body fin k) != Config.residue)

/-- A run from outside RESET to RESET over the rest of a packet, whose elements before it are buffered or gone. -/
theorem run_chkNotReset (hp : pipelineAdmitted s.params.chkDwb = true) (hst : s.chk.st ≠ .reset)
    (hbuf : s.chk.buf.length ≤ Config.ratio s.params.chkDwb) (ht : t.chk.st = .reset)
    (hrun : run n s = some (tr, t)) (hacc : chkAccepted tr = body ++ [fin]) (hbody : ∀ e ∈ body, e.last = false)
    (hfin : fin.last = true) :
    ∃ crcErr, IsPacketVerdict s.params.chkDwb (laneReg s.chk.crc (s.params.chkDwb - 1)) body fin crcErr ∧
      Reports s.params.chkDwb tr (s.chk.buf ++ (body ++ [fin])) crcErr := by
  induction n generalizing s tr body with
  | zero =>
    obtain ⟨-, rfl⟩ := run_zero_iff.1 hrun
    exact absurd ht hst
  | succ n ih =>
    obtain ⟨u, tr', hstep, hrest, rfl⟩ := run_succ_iff.1 hrun
    have params := parametersNeverChange s u hstep
    obtain ⟨hchk, hnone, hem, hpulse⟩ | ⟨e, crcErr, hwf, hsome, hst', hcrc, hverdict, htakes⟩ :=
      step_of_chkNotReset hst hstep
    · rw [chkAccepted_cons_none hnone] at hacc
      obtain ⟨crcErr, hverdict, hreports⟩ :=
        ih (s := u) (by rwa [params]) (by rwa [hchk]) (by rwa [hchk, params]) hrest hacc hbody
      rw [hchk, params] at hverdict hreports
      exact ⟨crcErr, hverdict, reports_cons_still hem hpulse hreports⟩
    · rw [chkAccepted_cons_some hsome] at hacc
      cases body with
      | nil =>
        obtain ⟨rfl, hnil⟩ := List.cons_eq_cons.1 hacc
        have quiet : Quiet tr' := run_chkReset_of_none (by rw [hst', if_pos hfin]) ht hrest hnil
        refine ⟨crcErr, hverdict, ?_⟩
        obtain ⟨hne, hem, hpulse, -⟩ | ⟨b, rest, hb, hfull, hem, hpulse, -⟩ := htakes
        · refine reports_cons_still hem hpulse (reports_of_quiet quiet ?_ crcErr)
          have : s.chk.buf.length < Config.ratio s.params.chkDwb := lt_of_le_of_ne hbuf hne
          simpa using this
        · rw [hb] at hfull ⊢
          exact reports_cons_final hfin hem (by rw [hpulse, hfin, Bool.true_and]) hfull quiet
      | cons b' body =>
        obtain ⟨rfl, hacc'⟩ := List.cons_eq_cons.1 hacc
        obtain ⟨hmid, hbody⟩ := List.forall_mem_cons.1 hbody
        have hactive : u.chk.st ≠ .reset := by rw [hst', hmid]; simp
        obtain ⟨v, hv, hreports⟩ := ih (s := u) (by rwa [params]) (by rw [hst', hmid]; simp)
          (by rw [params]; exact takes_length_le htakes hbuf) hrest hacc' hbody
        rw [hcrc, params, laneReg_top_bankUpdate (pipelineAdmitted_pos hp) _ (data_length_of_wf hwf)] at hv
        rw [params] at hreports
        refine ⟨v, fun k hk => by rw [fold_validBytes_cons]; exact hv k hk, ?_⟩
        obtain ⟨-, hem, hpulse, hbuf'⟩ | ⟨b, rest, hb, hfull, hem, hpulse, hbuf'⟩ := htakes
        · rw [hbuf', List.append_assoc] at hreports
          exact reports_cons_still hem hpulse hreports
        · rw [hbuf', List.append_assoc] at hreports
          rw [hb]
          refine reports_cons_passed ?_ (by rw [hpulse, hmid, Bool.false_and]) ?_ hreports
          · rw [hem, releasedFor, hmid]
            rfl
          · rw [← hfull, hb]
            simp

/-- A run from RESET to RESET over one packet. -/
theorem run_chkReset (hp : pipelineAdmitted s.params.chkDwb = true) (hst : s.chk.st = .reset) (ht : t.chk.st = .reset)
    (hrun : run n s = some (tr, t)) (hacc : chkAccepted tr = body ++ [fin]) (hbody : ∀ e ∈ body, e.last = false)
    (hfin : fin.last = true) :
    ∃ crcErr, IsPacketVerdict s.params.chkDwb Config.init body fin crcErr ∧
      Reports s.params.chkDwb tr (body ++ [fin]) crcErr := by
  induction n generalizing s tr with
  | zero =>
    obtain ⟨rfl, -⟩ := run_zero_iff.1 hrun
    simp [chkAccepted] at hacc
  | succ n ih =>
    obtain ⟨u, tr', hstep, hrest, rfl⟩ := run_succ_iff.1 hrun
    have params := parametersNeverChange s u hstep
    obtain ⟨⟨hnone, hem, hpulse⟩, hnext⟩ := step_of_chkReset hst hstep
    rw [chkAccepted_cons_none hnone] at hacc
    rw [← params] at hp ⊢
    obtain hreset | hidle := hnext
    · obtain ⟨crcErr, hverdict, hreports⟩ := ih hp hreset hrest hacc
      exact ⟨crcErr, hverdict, reports_cons_still hem hpulse hreports⟩
    · obtain ⟨crcErr, hverdict, hreports⟩ := run_chkNotReset hp (by rw [hidle]; simp) (by rw [hidle]; simp) ht hrest
        hacc hbody hfin
      have top : u.params.chkDwb - 1 < u.params.chkDwb := Nat.sub_one_lt_of_lt (pipelineAdmitted_pos hp)
      rw [hidle, ← params] at hverdict hreports
      rw [laneReg_bankReset top] at hverdict
      exact ⟨crcErr, hverdict, reports_cons_still hem hpulse hreports⟩

/-- Settles O40: the Checker's run follows RESET, IDLE or ACTIVE, and RESET, with waits anywhere. -/
theorem checkerPacketContract : Obligations.CheckerPacketContract := by
  intro n s t tr body fin hp hst ht hrun hacc hbody hfin
  obtain ⟨crcErr, hverdict, hemitted, hcount, hpulses⟩ := run_chkReset hp hst ht hrun hacc hbody hfin
  refine ⟨crcErr, hverdict, hemitted, ?_, hpulses⟩
  rw [hcount, List.length_append, List.length_singleton]
  simp only [Nat.lt_succ_iff]

end Sys2Proof.Machine
end

section
/-! PROOFS. The round trip (R228): the packet that an Inserter emits for a packet whose last word is full ends in a trailer
that leaves the residue, and a Checker strips it. -/

namespace Sys2Proof.Machine

open Sys2Proof.Safety

variable {dwb : Nat}

/-- The trailer's last element is one of number `RATIO - 1`, and the only one with `last`. -/
theorem trailer_eq_append (hp : pipelineAdmitted dwb = true) (d : Nat → Lanes) :
    ∃ front fin, trailer dwb d = front ++ [fin] ∧ (∀ e ∈ front, e.last = false) ∧ fin.last = true ∧
      fin.lastBe = oneHot dwb (dwb - 1) ∧ fin.data = d (Config.ratio dwb - 1) := by
  obtain ⟨m, hm⟩ : ∃ m, Config.ratio dwb = m + 1 := Nat.exists_eq_add_one.2 (ratio_pos hp)
  refine ⟨(List.range m).map (trailerAt dwb d), trailerAt dwb d m, ?_, ?_, ?_, ?_, ?_⟩
  · rw [trailer_eq_map, hm, List.range_succ, List.map_append, List.map_singleton]
  · intro e he
    obtain ⟨i, hi, rfl⟩ := List.mem_map.1 he
    have hi : i ≠ m := (List.mem_range.1 hi).ne
    simp [trailerAt, hm, hi]
  · simp [trailerAt, hm]
  · simp [trailerAt, hm]
  · simp [trailerAt, hm]

theorem trailer_any_error (d : Nat → Lanes) : (trailer dwb d).any (·.error) = false := by
  simp [trailer]

/-- The chunks of a value are its four bytes in stream order (R56, R78). -/
theorem allBytes_trailer_chunk (hp : pipelineAdmitted dwb = true) (v : Crc) :
    allBytes (trailer dwb (chunk dwb v)) = trailerBytes v := by
  have : dwb = 1 ∨ dwb = 2 ∨ dwb = 4 := by simpa [pipelineAdmitted, or_assoc] using hp
  obtain rfl | rfl | rfl := this <;> rfl

theorem allBytes_append (es es' : List Element) : allBytes (es ++ es') = allBytes es ++ allBytes es' :=
  List.flatMap_append

theorem allBytes_map_passed (es : List Element) : allBytes (es.map passed) = allBytes es := by
  rw [allBytes, List.flatMap_map]
  rfl

/-- With its top lane selected, a final element of the port's width is valid whole. -/
theorem validBytes_top (body : List Element) {fin : Element} (hdwb : 1 ≤ dwb) (h : fin.data.length = dwb) :
    validBytes body fin (dwb - 1) = allBytes (body ++ [fin]) := by
  have whole : dwb - 1 + 1 = fin.data.length := by omega
  rw [validBytes, whole, List.take_length, allBytes_append]
  simp [allBytes]

/-- The residue test passes on a packet with the trailer of its CRC (R131). -/
theorem packetCrcErr_with_trailer {bytes : Lanes} {body front : List Element} {fin : Element} (hdwb : 1 ≤ dwb)
    (hfin : fin.data.length = dwb) (h : allBytes (body ++ (front ++ [fin])) = bytes ++ trailerBytes (byteCrc bytes)) :
    (fold Config.init (validBytes (body ++ front) fin (dwb - 1)) != Config.residue) = false := by
  rw [bne_eq_false_iff_eq, validBytes_top _ hdwb hfin, List.append_assoc, h]
  exact (residueExactlyForCorrectTrailer bytes _).2 rfl

theorem passed_of_not_last {e : Element} (h : e.last = false) : passed e = e := by rw [passed, ← h]

theorem map_passed_of_not_last {es : List Element} (h : ∀ e ∈ es, e.last = false) : es.map passed = es :=
  (List.map_congr_left fun e he => passed_of_not_last (h e he)).trans (List.map_id es)

/-- Stripping the trailer from the passed packet gives the packet back, with `last` on its final element. -/
theorem chkPacket_insPacket {body : List Element} {fin : Element} (hbody : ∀ e ∈ body, e.last = false)
    (hfin : fin.last = true) (d : Nat → Lanes) :
    chkPacket dwb (insPacket dwb (body ++ [fin]) d) false = body ++ [fin] := by
  have same : body.map passed = body := map_passed_of_not_last hbody
  have packet : insPacket dwb (body ++ [fin]) d = body ++ passed fin :: trailer dwb d := by
    calc insPacket dwb (body ++ [fin]) d = (body ++ [fin]).map passed ++ trailer dwb d := rfl
      _ = body ++ passed fin :: trailer dwb d := by
        rw [List.map_append, same, List.append_assoc]
        rfl
  rw [packet, chkPacket_append _ (trailer_length dwb d), same, trailer_any_error, ← hfin, Bool.or_false, Bool.or_false]
  rfl

/-- Settles O42: the two packet contracts on the same elements, with the residue left by the trailer. -/
theorem alignedRoundTrip : Obligations.AlignedRoundTrip := by
  intro n m s t u v tr tr' body fin hp hdwb hs ht hrun hacc hbody hfin hlane hu hv hrun' hacc'
  obtain ⟨hwf, d, hemitted, hlen, hdata⟩ := run_insIdle hp hs ht hrun hacc hbody hfin
  obtain ⟨front, tail, htrailer, hfront, htail, htailBe, htailData⟩ := trailer_eq_append hp d
  have hpos := pipelineAdmitted_pos hp
  have hchunks : d = chunk s.params.insDwb (byteCrc (validBytes body fin (s.params.insDwb - 1))) := hdata _ hlane
  have hbytes : allBytes ((body ++ [fin]).map passed ++ (front ++ [tail])) =
      validBytes body fin (s.params.insDwb - 1) ++ trailerBytes (byteCrc (validBytes body fin (s.params.insDwb - 1))) := by
    rw [← htrailer, hchunks, allBytes_append, allBytes_map_passed, allBytes_trailer_chunk hp,
      validBytes_top body hpos (data_length_of_wf (hwf fin (by simp)))]
  have haccepted : chkAccepted tr' = ((body ++ [fin]).map passed ++ front) ++ [tail] := by
    rw [hacc', hemitted, List.append_assoc, ← htrailer]
    rfl
  have hquiet : ∀ e ∈ (body ++ [fin]).map passed ++ front, e.last = false := by
    intro e he
    obtain he | he := List.mem_append.1 he
    · obtain ⟨e, -, rfl⟩ := List.mem_map.1 he
      rfl
    · exact hfront e he
  obtain ⟨crcErr, hverdict, hreport, hcount, -⟩ := run_chkReset (by rwa [hdwb]) hu hv hrun' haccepted hquiet htail
  have hselected : laneSel u.params.chkDwb tail.lastBe = some (s.params.insDwb - 1) := by
    rw [hdwb, htailBe, laneSel_oneHot (by omega)]
  have hpass : crcErr = false := by
    rw [hverdict _ hselected]
    exact packetCrcErr_with_trailer hpos (by rw [htailData, hlen]) hbytes
  rw [← haccepted, hacc', hemitted, hdwb, hpass] at hreport
  refine ⟨hreport.trans (chkPacket_insPacket hbody hfin d), ?_⟩
  rw [hcount, hpass]
  simp

end Sys2Proof.Machine
end

section
/-! PROOFS. How many cycles a packet takes when nothing waits (R232): a machine loaded with the offers of a packet makes
one step for each of them. -/

namespace Sys2Proof.Machine

open Sys2Proof.Safety

variable {s : State} {x : Inputs} {e fin : Element} {body : List Element} {xs : List Inputs}

/-! Loaded inputs. -/

@[simp] theorem load_params (s : State) (xs : List Inputs) : (s.load xs).params = s.params := by cases xs <;> rfl
@[simp] theorem load_ins (s : State) (xs : List Inputs) : (s.load xs).ins = s.ins := by cases xs <;> rfl
@[simp] theorem load_chk (s : State) (xs : List Inputs) : (s.load xs).chk = s.chk := by cases xs <;> rfl
@[simp] theorem load_out (s : State) (xs : List Inputs) : (s.load xs).out = s.out := by cases xs <;> rfl

/-- The end of a cycle is a fresh draw and the load of the script. -/
theorem endCycle_eq_load (s : State) : endCycle s = State.load { s with draw := s.draw + 1 } s.script := by
  cases h : s.script <;> simp [endCycle, State.load, h]

/-- A run on loaded inputs, one step at a time. -/
theorem run_load_cons {n : Nat} {t u : State} {y : Inputs} {tr : Trace} (hstep : step (s.load (y :: xs)) = .next (t.load xs))
    (hrest : run n (t.load xs) = some (tr, u)) : run (n + 1) (s.load (y :: xs)) = some ((y, t.out) :: tr, u) :=
  run_succ_iff.2 ⟨_, _, hstep, hrest, by rw [load_out]; rfl⟩

/-! The Inserter. -/

/-- A step of the Inserter on a loaded offer. -/
theorem step_offerIns (hp : pipelineAdmitted s.params.insDwb = true) (hwf : e.wf s.params.insDwb = true) :
    ∃ t : State, step (s.load (offerIns x e :: xs)) = .next (t.load xs) ∧ t.params = s.params ∧
      t.ins = insAfter (s.load (offerIns x e :: xs)) ∧
      insAccepts (offerIns x e) t.out = sinkXfer ⟨true, e, true⟩ (insOut (s.load (offerIns x e :: xs))) := by
  have ready : InsReady (s.load (offerIns x e :: xs)) := ⟨hp, hwf⟩
  have hstep := (step_inserter_iff rfl).2 ⟨ready, rfl⟩
  rw [endCycle_eq_load] at hstep
  exact ⟨_, hstep, rfl, rfl, rfl⟩

/-- IDLE takes nothing and goes to COPY. -/
theorem step_offerIns_idle (hp : pipelineAdmitted s.params.insDwb = true) (hwf : e.wf s.params.insDwb = true)
    (hst : s.ins.st = .idle) :
    ∃ t : State, step (s.load (offerIns x e :: xs)) = .next (t.load xs) ∧ t.params = s.params ∧ t.ins.st = .copy ∧
      insAccepts (offerIns x e) t.out = none := by
  obtain ⟨t, hstep, params, hins, hacc⟩ := step_offerIns (x := x) (xs := xs) hp hwf
  refine ⟨t, hstep, params, by rw [hins, insAfter, load_ins, hst]; rfl, hacc.trans ?_⟩
  rw [insOut, load_ins, hst]
  rfl

/-- COPY takes the offer while downstream is ready, and goes to APPEND with the final one. -/
theorem step_offerIns_copy (hp : pipelineAdmitted s.params.insDwb = true) (hwf : e.wf s.params.insDwb = true)
    (hst : s.ins.st = .copy) :
    ∃ t : State, step (s.load (offerIns x e :: xs)) = .next (t.load xs) ∧ t.params = s.params ∧
      (e.last = false → t.ins.st = .copy) ∧ (e.last = true → t.ins.st = .append ∧ t.ins.cnt = 0) ∧
      insAccepts (offerIns x e) t.out = some e := by
  obtain ⟨t, hstep, params, hins, hacc⟩ := step_offerIns (x := x) (xs := xs) hp hwf
  have offered : (s.load (offerIns x e :: xs)).inputs.ins = ⟨true, e, true⟩ := rfl
  refine ⟨t, hstep, params, fun hl => ?_, fun hl => ?_, hacc.trans ?_⟩
  · simp [hins, insAfter, hst, offered, hl]
  · simp [hins, insAfter, hst, offered, hl]
  · rw [insOut, load_ins, hst]
    rfl

/-- APPEND takes nothing, and counts on, or goes to IDLE with the last chunk. -/
theorem step_offerIns_append (hp : pipelineAdmitted s.params.insDwb = true) (hwf : e.wf s.params.insDwb = true)
    (hst : s.ins.st = .append) :
    ∃ t : State, step (s.load (offerIns x e :: xs)) = .next (t.load xs) ∧ t.params = s.params ∧
      (s.ins.cnt + 1 = Config.ratio s.params.insDwb → t.ins.st = .idle) ∧
      (s.ins.cnt + 1 ≠ Config.ratio s.params.insDwb → t.ins.st = .append ∧ t.ins.cnt = s.ins.cnt + 1) ∧
      insAccepts (offerIns x e) t.out = none := by
  obtain ⟨t, hstep, params, hins, hacc⟩ := step_offerIns (x := x) (xs := xs) hp hwf
  have hpos := ratio_pos hp
  have ready : (s.load (offerIns x e :: xs)).inputs.ins.sourceReady = true := rfl
  have final : insFinal (s.load (offerIns x e :: xs)) = true ↔ s.ins.cnt + 1 = Config.ratio s.params.insDwb := by
    rw [insFinal_iff, load_ins, load_params]
    omega
  refine ⟨t, hstep, params, fun h => ?_, fun h => ?_, hacc.trans ?_⟩
  · simp [hins, insAfter, hst, ready, final.2 h]
  · simp [hins, insAfter, hst, ready, mt final.1 h]
  · rw [insOut, load_ins, hst]
    rfl

/-- From APPEND the offers of the rest of the trailer's cycles lead to IDLE, and none is taken. -/
theorem run_offers_insAppend (hp : pipelineAdmitted s.params.insDwb = true) (hst : s.ins.st = .append)
    (hwf : e.wf s.params.insDwb = true) {m : Nat} (hm : s.ins.cnt + (m + 1) = Config.ratio s.params.insDwb) :
    ∃ tr t, run (m + 1) (s.load ((List.replicate (m + 1) e).map (offerIns x))) = some (tr, t) ∧
      t.ins.st = .idle ∧ insAccepted tr = [] := by
  induction m generalizing s with
  | zero =>
    obtain ⟨t, hstep, -, hidle, -, hnone⟩ := step_offerIns_append (x := x) (xs := []) hp hwf hst
    exact ⟨_, _, run_load_cons hstep rfl, by rw [load_ins, hidle hm], insAccepted_cons_none hnone⟩
  | succ m ih =>
    obtain ⟨t, hstep, params, -, hchunk, hnone⟩ :=
      step_offerIns_append (x := x) (xs := (List.replicate (m + 1) e).map (offerIns x)) hp hwf hst
    obtain ⟨hst', hcnt'⟩ := hchunk (by omega)
    obtain ⟨tr, u, hrun, hu, hacc⟩ := ih (s := t) (by rwa [params]) hst' (by rwa [params]) (by rw [params]; omega)
    exact ⟨_, u, run_load_cons hstep hrun, hu, (insAccepted_cons_none hnone).trans hacc⟩

/-- From COPY each offer of the packet is taken in its cycle, and the trailer follows. -/
theorem run_offers_insCopy (hp : pipelineAdmitted s.params.insDwb = true) (hst : s.ins.st = .copy)
    (hwf : ∀ e ∈ body ++ [fin], e.wf s.params.insDwb = true) (hbody : ∀ e ∈ body, e.last = false)
    (hfin : fin.last = true) :
    ∃ tr t, run ((body ++ [fin]).length + Config.ratio s.params.insDwb)
        (s.load (((body ++ [fin]) ++ List.replicate (Config.ratio s.params.insDwb) fin).map (offerIns x))) = some (tr, t) ∧
      t.ins.st = .idle ∧ insAccepted tr = body ++ [fin] := by
  induction body generalizing s with
  | nil =>
    have hwf : fin.wf s.params.insDwb = true := hwf fin (by simp)
    obtain ⟨m, hm⟩ : ∃ m, Config.ratio s.params.insDwb = m + 1 := Nat.exists_eq_add_one.2 (ratio_pos hp)
    obtain ⟨t, hstep, params, -, hlast, hsome⟩ :=
      step_offerIns_copy (x := x) (xs := (List.replicate (m + 1) fin).map (offerIns x)) hp hwf hst
    obtain ⟨hst', hcnt'⟩ := hlast hfin
    obtain ⟨tr, u, hrun, hu, hacc⟩ := run_offers_insAppend (s := t) (x := x) (by rwa [params]) hst' (by rwa [params])
      (m := m) (by rw [params, hcnt', hm]; omega)
    rw [hm, List.nil_append, List.length_singleton, Nat.add_comm]
    exact ⟨_, u, run_load_cons hstep hrun, hu, (insAccepted_cons_some hsome).trans (congrArg _ hacc)⟩
  | cons b body ih =>
    obtain ⟨hb, hwf⟩ := List.forall_mem_cons.1 hwf
    obtain ⟨hmid, hbody⟩ := List.forall_mem_cons.1 hbody
    obtain ⟨t, hstep, params, hcopy, -, hsome⟩ := step_offerIns_copy (x := x)
      (xs := ((body ++ [fin]) ++ List.replicate (Config.ratio s.params.insDwb) fin).map (offerIns x)) hp hb hst
    obtain ⟨tr, u, hrun, hu, hacc⟩ := ih (s := t) (by rwa [params]) (hcopy hmid) (by rwa [params]) hbody
    rw [params] at hrun
    rw [List.cons_append, List.length_cons, Nat.add_right_comm]
    exact ⟨_, u, run_load_cons hstep hrun, hu, (insAccepted_cons_some hsome).trans (congrArg _ hacc)⟩

/-- A packet's first element. -/
theorem exists_first (body : List Element) (fin : Element) :
    ∃ first, first ∈ body ++ [fin] ∧ (body ++ [fin]).take 1 = [first] := by
  cases body with
  | nil => exact ⟨fin, by simp, rfl⟩
  | cons b body => exact ⟨b, by simp, rfl⟩

/-- Settles O30: a cycle in IDLE, one for each element, and one for each trailer element. -/
theorem inserterPacketCycleCount : Obligations.InserterPacketCycleCount := by
  intro s x body fin hp hst hwf hbody hfin
  obtain ⟨first, hmem, hfirst⟩ := exists_first body fin
  rw [hfirst, List.append_assoc, List.singleton_append, List.map_cons, Nat.add_assoc, Nat.add_comm 1]
  obtain ⟨t, hstep, params, hcopy, hnone⟩ := step_offerIns_idle (x := x)
    (xs := ((body ++ [fin]) ++ List.replicate (Config.ratio s.params.insDwb) fin).map (offerIns x)) hp (hwf first hmem) hst
  obtain ⟨tr, u, hrun, hu, hacc⟩ := run_offers_insCopy (s := t) (x := x) (by rwa [params]) hcopy (by rwa [params])
    hbody hfin
  rw [params] at hrun
  exact ⟨_, u, run_load_cons hstep hrun, hu, (insAccepted_cons_none hnone).trans hacc⟩

/-! The Checker. -/

/-- A step of the Checker on a loaded offer. -/
theorem step_offerChk (hp : pipelineAdmitted s.params.chkDwb = true) (hwf : e.wf s.params.chkDwb = true) :
    ∃ t : State, step (s.load (offerChk x e :: xs)) = .next (t.load xs) ∧ t.params = s.params ∧
      t.chk = chkAfter (s.load (offerChk x e :: xs)) ∧
      chkAccepts (offerChk x e) t.out = sinkXfer ⟨true, e, true⟩ (chkOut (s.load (offerChk x e :: xs))) := by
  have ready : ChkReady (s.load (offerChk x e :: xs)) := ⟨hp, hwf⟩
  have hstep := (step_checker_iff rfl).2 ⟨ready, rfl⟩
  rw [endCycle_eq_load] at hstep
  exact ⟨_, hstep, rfl, rfl, rfl⟩

/-- RESET takes nothing and goes to IDLE. -/
theorem step_offerChk_reset (hp : pipelineAdmitted s.params.chkDwb = true) (hwf : e.wf s.params.chkDwb = true)
    (hst : s.chk.st = .reset) :
    ∃ t : State, step (s.load (offerChk x e :: xs)) = .next (t.load xs) ∧ t.params = s.params ∧ t.chk.st = .idle ∧
      chkAccepts (offerChk x e) t.out = none := by
  obtain ⟨t, hstep, params, hchk, hacc⟩ := step_offerChk (x := x) (xs := xs) hp hwf
  have hst : (s.load (offerChk x e :: xs)).chk.st = .reset := hst
  refine ⟨t, hstep, params, by rw [hchk, chkAfter, if_pos hst], hacc.trans ?_⟩
  exact (sinkXfer_chkOut (s.load (offerChk x e :: xs))).trans (if_neg fun h => h.1 hst)

/-- Outside RESET an offer is taken while downstream is ready. -/
theorem step_offerChk_notReset (hp : pipelineAdmitted s.params.chkDwb = true) (hwf : e.wf s.params.chkDwb = true)
    (hst : s.chk.st ≠ .reset) :
    ∃ t : State, step (s.load (offerChk x e :: xs)) = .next (t.load xs) ∧ t.params = s.params ∧
      t.chk.st = (if e.last then .reset else .active) ∧ chkAccepts (offerChk x e) t.out = some e := by
  obtain ⟨t, hstep, params, hchk, hacc⟩ := step_offerChk (x := x) (xs := xs) hp hwf
  have hst : (s.load (offerChk x e :: xs)).chk.st ≠ .reset := hst
  have takes : chkTakes (s.load (offerChk x e :: xs)) = true := chkTakes_iff.2 ⟨rfl, .inr rfl⟩
  refine ⟨t, hstep, params, by rw [hchk, chkAfter, if_neg hst, if_pos takes]; rfl, hacc.trans ?_⟩
  exact (sinkXfer_chkOut (s.load (offerChk x e :: xs))).trans (if_pos ⟨hst, takes⟩)

/-- From outside RESET each offer of the packet is taken in its cycle. -/
theorem run_offers_chkNotReset (hp : pipelineAdmitted s.params.chkDwb = true) (hst : s.chk.st ≠ .reset)
    (hwf : ∀ e ∈ body ++ [fin], e.wf s.params.chkDwb = true) (hbody : ∀ e ∈ body, e.last = false)
    (hfin : fin.last = true) :
    ∃ tr t, run (body ++ [fin]).length (s.load ((body ++ [fin]).map (offerChk x))) = some (tr, t) ∧
      t.chk.st = .reset ∧ chkAccepted tr = body ++ [fin] := by
  induction body generalizing s with
  | nil =>
    obtain ⟨t, hstep, -, hst', hsome⟩ := step_offerChk_notReset (x := x) (xs := []) hp (hwf fin (by simp)) hst
    exact ⟨_, _, run_load_cons hstep rfl, by rw [load_chk, hst', if_pos hfin], chkAccepted_cons_some hsome⟩
  | cons b body ih =>
    obtain ⟨hb, hwf⟩ := List.forall_mem_cons.1 hwf
    obtain ⟨hmid, hbody⟩ := List.forall_mem_cons.1 hbody
    obtain ⟨t, hstep, params, hst', hsome⟩ :=
      step_offerChk_notReset (x := x) (xs := (body ++ [fin]).map (offerChk x)) hp hb hst
    obtain ⟨tr, u, hrun, hu, hacc⟩ := ih (s := t) (by rwa [params]) (by rw [hst', hmid]; simp) (by rwa [params]) hbody
    exact ⟨_, u, run_load_cons hstep hrun, hu, (chkAccepted_cons_some hsome).trans (congrArg _ hacc)⟩

/-- Settles O41: a cycle in RESET, and one for each element. -/
theorem checkerPacketCycleCount : Obligations.CheckerPacketCycleCount := by
  intro s x body fin hp hst hwf hbody hfin
  obtain ⟨first, hmem, hfirst⟩ := exists_first body fin
  rw [hfirst, List.singleton_append, List.map_cons, Nat.add_comm 1]
  obtain ⟨t, hstep, params, hidle, hnone⟩ :=
    step_offerChk_reset (x := x) (xs := (body ++ [fin]).map (offerChk x)) hp (hwf first hmem) hst
  obtain ⟨tr, u, hrun, hu, hacc⟩ := run_offers_chkNotReset (s := t) (x := x) (by rwa [params]) (by rw [hidle]; simp)
    (by rwa [params]) hbody hfin
  exact ⟨_, u, run_load_cons hstep hrun, hu, (chkAccepted_cons_none hnone).trans hacc⟩

end Sys2Proof.Machine
end
